-- ==== Sys2Proof/Word.lean ====
section
/-!
DEFINITION. The widths the spec names (00_scope.md R9): u8, u16, u24, u32, and the 6-bit target field.
Bits are numbered from 0 at the least significant bit; nothing sign-extends.
-/

namespace Sys2Proof

/-- `u8`: one bus byte, one register cell, one FIFO entry. -/
abbrev Byte := BitVec 8

/-- `u16`: the CRC polynomial, seed and 16-bit FCS. -/
abbrev Word16 := BitVec 16

/-- `u24`: the frequency word FREQ. -/
abbrev Word24 := BitVec 24

/-- `u32`: the 32-bit FCS. -/
abbrev Word32 := BitVec 32

/-- The 6-bit target field T of a header byte (30_encoding.md R121). -/
abbrev Target := BitVec 6

end Sys2Proof
end

