-- ==== Sys2Proof/Config.lean ====
section
/-!
DEFINITION. The configuration record of 00_scope.md R7 and the free values of R51. Every parameter of R7 that is
plain data is a field; its default instance is `Sys2Proof.Machine.defaultConfig` (Machine/Defaults.lean).
The three draws and CHANNEL_OF are constants with no body: nothing can evaluate them.
-/

namespace Sys2Proof

/-- The operating states of the device (10_state.md R24). -/
inductive ChipMode where
  | off | idle | receiveMode | transmitMode | fastTxReady
  | calibrate | settling | rxFifoError | txFifoError
deriving DecidableEq, Repr

/-- What a strobe code commands (41_command_strobes.md R200). -/
inductive StrobeKind where
  | reset | calibrate | enableRx | enableTx | goIdle | sleep
  | flushRx | flushTx | noOperation | unknown
deriving DecidableEq, Repr

/-- DIRECT_ACCESS_POLICY (R7, D7). -/
inductive DirectAccessPolicy where
  | refuse | peek
deriving DecidableEq, Repr

/-- WRITE_ONLY_READBACK (R7, D16). -/
inductive WriteOnlyReadback where
  | stored | zero
deriving DecidableEq, Repr

/-- INFINITE_LENGTH_POLICY (R7, D22). -/
inductive InfiniteLengthPolicy where
  | drop | noCheck
deriving DecidableEq, Repr

/-- MODE_CODE: the 4-bit code of each chip mode (R26, D5). -/
structure ModeCodes where
  off : BitVec 4
  idle : BitVec 4
  receiveMode : BitVec 4
  transmitMode : BitVec 4
  fastTxReady : BitVec 4
  calibrate : BitVec 4
  settling : BitVec 4
  rxFifoError : BitVec 4
  txFifoError : BitVec 4
deriving DecidableEq, Repr

/-- A 16-bit CRC polynomial and seed (R43, R237). -/
structure CrcPair where
  poly : Word16
  seed : Word16
deriving DecidableEq, Repr

/-- CRC_TABLE: the pair each non-zero value of CRC_CFG selects (R237, D17). -/
structure CrcTable where
  mode1 : CrcPair
  mode2 : CrcPair
  mode3 : CrcPair
deriving DecidableEq, Repr

/-- An algorithm record, CRC16_ALGO or CRC32_ALGO (R7, D18). `reflected` shifts least significant bit first (R232)
instead of most significant bit first (R230); `msbFirst` is the byte order of the FCS (R231, R233). -/
structure CrcAlgo (w : Nat) where
  reflected : Bool
  xorOut : BitVec w
  msbFirst : Bool
deriving DecidableEq, Repr

/-- PHR_LAYOUT: where the PHY header fields lie (R253, R254, D20, D23). -/
structure PhrLayout where
  /-- bit of the first g-mode header byte that is MS -/
  msBit : Nat
  /-- bit of the first g-mode header byte that is the FCS type -/
  fcsTypeBit : Nat
  /-- lowest bit, in the first g-mode header byte, of the three high length bits -/
  lengthHighLo : Nat
  /-- index of the address byte in a legacy frame -/
  addressIndex : Nat
deriving DecidableEq, Repr

/-- What the length limit may depend on (R256): an argument of LENGTH_LIMIT. -/
structure LengthArgs where
  lengthConfig : BitVec 2
  packetLength : Byte
  crcAutoflush : Bool
  appendStatus : Bool
deriving DecidableEq, Repr

/-- LENGTH_LIMIT (R7, R256, D21), a function of `LengthArgs` written as plain data: its values at the listed arguments, and
the formula of R256 with these capacities and this status margin at every other one. As the arguments are finitely many,
every function has such a form; the default lists none. -/
structure LengthRule where
  listed : List (LengthArgs × Int)
  capFixed : Nat
  capVariable : Nat
  statusMargin : Nat
deriving DecidableEq, Repr

/-- ACK_FORMAT: the PHY headers and the frame-control bytes of the ACK template (R274, D32). -/
structure AckFormat where
  legacyHeader : List Byte
  gHeader : List Byte
  frameControl : List Byte
deriving DecidableEq, Repr

/-- GPIO_ROLE_CODES: the 6-bit code of each role (R312, D36). -/
structure GpioRoleCodes where
  rxFifoThr : BitVec 6
  txFifoThr : BitVec 6
  txFifoThrPkt : BitVec 6
  pktSync : BitVec 6
  marcStatus1 : BitVec 6
  marcStatus0 : BitVec 6
  chipRdyn : BitVec 6
deriving DecidableEq, Repr

/-- HDR_RW_BIT and HDR_BURST_BIT: which bit of a header byte is RW and which is B (R7, R121, D1). Any bit index; the source's
"top two bits" are 7 and 6, in either order (notes/assumptions/28.md). -/
structure HeaderBits where
  hdrRwBit : Nat
  hdrBurstBit : Nat
deriving DecidableEq, Repr

/-- The two register spaces (R27). -/
inductive Space where
  | std | ext
deriving DecidableEq, Repr

/-- Where a field lies: its space, its address, and the `width` bits from bit `lo` on (R7, R86). -/
structure FieldPos where
  space : Space
  addr : Byte
  lo : Nat
  width : Nat
deriving DecidableEq, Repr

/-- The two fields of a line's configuration that a rule reads (R28). -/
structure IocfgFields where
  cfg : FieldPos
  inv : FieldPos
deriving DecidableEq, Repr

/-- REG_MAP: where every named field lies (R28 to R41), and which standard addresses are declared as stored cells
(R27, D13, D14). -/
structure RegMap where
  stdCells : List Byte
  iocfg0 : IocfgFields
  iocfg1 : IocfgFields
  iocfg2 : IocfgFields
  iocfg3 : IocfgFields
  crcAutoflush : FieldPos
  fifoThr : FieldPos
  deviceAddr : FieldPos
  fgModeEn : FieldPos
  addrCheckCfg : FieldPos
  crcCfg : FieldPos
  appendStatus : FieldPos
  lengthConfig : FieldPos
  rxoffMode : FieldPos
  txoffMode : FieldPos
  termOnBadPacket : FieldPos
  packetLength : FieldPos
  freq2 : FieldPos
  freq1 : FieldPos
  freq0 : FieldPos
  rssi1 : FieldPos
  pktCrcOk : FieldPos
  lqiEst : FieldPos
  partNumber : FieldPos
  numTxBytes : FieldPos
  numRxBytes : FieldPos
deriving DecidableEq, Repr

/-- The configuration record of R7. It is fixed for a machine: no step writes it. -/
structure Config where
  fifoCapacity : Nat
  header : HeaderBits
  /-- STROBE_MAP, indexed from code 0x30 -/
  strobeMap : List StrobeKind
  calibrateCodes : List Target
  modeCode : ModeCodes
  fecSelect : Bool
  directPolicy : DirectAccessPolicy
  burstIncrement : Bool
  csDeassertResetsBus : Bool
  regMap : RegMap
  extraExtCells : List Byte
  /-- RESET_VALUES of the standard space, indexed by address -/
  resetStd : List Byte
  /-- RESET_VALUES of the stored extended cells -/
  resetExt : List (Byte × Byte)
  writeOnlyReadback : WriteOnlyReadback
  crcTable : CrcTable
  crc16Algo : CrcAlgo 16
  crc32Algo : CrcAlgo 32
  /-- the fixed polynomial of the CRC-32 variant, in the form its algorithm record shifts it -/
  crc32Poly : Word32
  crc32Init : Word32
  phr : PhrLayout
  lengthRule : LengthRule
  infiniteLength : InfiniteLengthPolicy
  ack : AckFormat
  gpioRoles : GpioRoleCodes
  gpioInvHonoured : Bool
  partNumber : Byte
deriving DecidableEq, Repr

/-- Free input: the RSSI top byte of the n-th draw (43_frame_receive.md R251, D25). -/
opaque Config.freeRssi : Nat → Byte

/-- Free input: the LQI of the n-th draw (43_frame_receive.md R251, D25). -/
opaque Config.freeLqi : Nat → BitVec 7

/-- Free input: the byte a refused direct read returns at the n-th draw (40_bus_access.md R179, D7). -/
opaque Config.freeByte : Nat → Byte

/-- CHANNEL_OF, OPEN in the spec (10_state.md R38, D45). -/
opaque Config.channelOf : Word24 → Int

end Sys2Proof
end

