-- ==== Sys2Proof/Machine/Defaults.lean ====
section
/-!
DEFINITION. The default instance of the configuration record (00_scope.md R7; the decisions D1 to D53 of
92_eei_decisions.md). Marks: PRESUMED, the CC120x family's values as the spec's decisions take them
(notes/assumptions/5.md, 6.md, 13.md, 14.md, 21.md).
-/

namespace Sys2Proof.Machine

/-- MODE_CODE (R26, D5). -/
def defaultModeCodes : ModeCodes where
  off := 0x8
  idle := 0x0
  receiveMode := 0x1
  transmitMode := 0x2
  fastTxReady := 0x3
  calibrate := 0x4
  settling := 0x5
  rxFifoError := 0x6
  txFifoError := 0x7

/-- STROBE_MAP, codes 0x30 to 0x3D in order (R123, D3). -/
def defaultStrobeMap : List StrobeKind :=
  [.reset, .calibrate, .unknown, .unknown, .enableRx, .enableTx, .goIdle,
   .unknown, .unknown, .sleep, .flushRx, .flushTx, .unknown, .noOperation]

/-- The fields of the line configuration at a standard address (R28). -/
def defaultIocfg (a : Byte) : IocfgFields where
  cfg := ⟨.std, a, 0, 6⟩
  inv := ⟨.std, a, 6, 1⟩

/-- The standard addresses 0x00 to 0x2E (R27, D14). -/
def defaultStdCells : List Byte := (List.range 0x2F).map (BitVec.ofNat 8)

/-- REG_MAP (R28 to R41, D13, D14). -/
def defaultRegMap : RegMap where
  stdCells := defaultStdCells
  iocfg0 := defaultIocfg 0x03
  iocfg1 := defaultIocfg 0x02
  iocfg2 := defaultIocfg 0x01
  iocfg3 := defaultIocfg 0x00
  crcAutoflush := ⟨.std, 0x1D, 7, 1⟩
  fifoThr := ⟨.std, 0x1D, 0, 7⟩
  deviceAddr := ⟨.std, 0x1E, 0, 8⟩
  fgModeEn := ⟨.std, 0x26, 5, 1⟩
  addrCheckCfg := ⟨.std, 0x27, 3, 2⟩
  crcCfg := ⟨.std, 0x27, 1, 2⟩
  appendStatus := ⟨.std, 0x27, 0, 1⟩
  lengthConfig := ⟨.std, 0x28, 5, 2⟩
  rxoffMode := ⟨.std, 0x29, 4, 2⟩
  txoffMode := ⟨.std, 0x2A, 4, 2⟩
  termOnBadPacket := ⟨.std, 0x2A, 3, 1⟩
  packetLength := ⟨.std, 0x2E, 0, 8⟩
  freq2 := ⟨.ext, 0x0C, 0, 8⟩
  freq1 := ⟨.ext, 0x0D, 0, 8⟩
  freq0 := ⟨.ext, 0x0E, 0, 8⟩
  rssi1 := ⟨.ext, 0x71, 0, 8⟩
  pktCrcOk := ⟨.ext, 0x74, 7, 1⟩
  lqiEst := ⟨.ext, 0x74, 0, 7⟩
  partNumber := ⟨.ext, 0x8F, 0, 8⟩
  numTxBytes := ⟨.ext, 0xD6, 0, 8⟩
  numRxBytes := ⟨.ext, 0xD7, 0, 8⟩

/-- RESET_VALUES of the standard cells 0x00 to 0x2E, in order (R28 to R37, D15). -/
def defaultResetStd : List Byte :=
  [ -- 0x00: IOCFG3, IOCFG2, IOCFG1, IOCFG0, SYNC3, SYNC2, SYNC1, SYNC0
    0x06, 0x07, 0x30, 0x3C, 0x93, 0x0B, 0x51, 0xDE,
    -- 0x08: SYNC_CFG1, SYNC_CFG0, DEVIATION_M, MODCFG_DEV_E, DCFILT_CFG, PREAMBLE_CFG1, PREAMBLE_CFG0, IQIC
    0xA9, 0x03, 0x06, 0x03, 0x4C, 0x14, 0xDA, 0xC4,
    -- 0x10: CHAN_BW, MDMCFG1, MDMCFG0, SYMBOL_RATE2, SYMBOL_RATE1, SYMBOL_RATE0, AGC_REF, AGC_CS_THR
    0x94, 0x46, 0x0D, 0x43, 0xA9, 0x2A, 0x36, 0x00,
    -- 0x18: AGC_GAIN_ADJUST, AGC_CFG3, AGC_CFG2, AGC_CFG1, AGC_CFG0, FIFO_CFG, DEV_ADDR, SETTLING_CFG
    0x00, 0xB1, 0x20, 0x51, 0x87, 0x80, 0x00, 0x0B,
    -- 0x20: FS_CFG, WOR_CFG1, WOR_CFG0, WOR_EVENT0_MSB, WOR_EVENT0_LSB, RXDCM_TIME, PKT_CFG2, PKT_CFG1
    0x02, 0x08, 0x21, 0x00, 0x00, 0x00, 0x04, 0x03,
    -- 0x28: PKT_CFG0, RFEND_CFG1, RFEND_CFG0, PA_CFG1, PA_CFG0, ASK_CFG, PKT_LEN
    0x00, 0x0F, 0x00, 0x7F, 0x56, 0x0F, 0x03 ]

/-- The default instance of every parameter of R7. -/
def defaultConfig : Config where
  fifoCapacity := 128
  header := { hdrRwBit := 7, hdrBurstBit := 6 }
  strobeMap := defaultStrobeMap
  calibrateCodes := [0x31]
  modeCode := defaultModeCodes
  fecSelect := false
  directPolicy := .refuse
  burstIncrement := false
  csDeassertResetsBus := true
  regMap := defaultRegMap
  extraExtCells := []
  resetStd := defaultResetStd
  resetExt := [(0x0C, 0x56), (0x0D, 0xCC), (0x0E, 0xCC)]
  writeOnlyReadback := .stored
  crcTable := { mode1 := ⟨0x8005, 0xFFFF⟩, mode2 := ⟨0x1021, 0x0000⟩, mode3 := ⟨0x1021, 0x1D0F⟩ }
  crc16Algo := { reflected := false, xorOut := 0x0000, msbFirst := true }
  crc32Algo := { reflected := true, xorOut := 0xFFFFFFFF, msbFirst := false }
  crc32Poly := 0xEDB88320
  crc32Init := 0xFFFFFFFF
  phr := { msBit := 7, fcsTypeBit := 4, lengthHighLo := 0, addressIndex := 1 }
  lengthRule := { listed := [], capFixed := 128, capVariable := 127, statusMargin := 2 }
  infiniteLength := .drop
  ack := { legacyHeader := [0x05], gHeader := [0x10, 0x05], frameControl := [0x02, 0x00] }
  gpioRoles :=
    { rxFifoThr := 0, txFifoThr := 2, txFifoThrPkt := 3, pktSync := 6,
      marcStatus1 := 37, marcStatus0 := 38, chipRdyn := 50 }
  gpioInvHonoured := false
  partNumber := 0x20

end Sys2Proof.Machine
end

