-- ==== Sys2Proof/Syntax.lean ====
section
/-!
DEFINITION. The instruction set: one constructor of `Instr` per row of spec/opcode_table.json, the bus states a byte is
read in (10_state.md R22), the target kinds (R23), and the events of the outside world (30_encoding.md R131).
-/

namespace Sys2Proof

/-- The state of the bus access machine (10_state.md R22). -/
inductive BusState where
  | waitingForHeader | waitingForAddress | waitingForData | readout
deriving DecidableEq, Repr

/-- What an access reaches (10_state.md R23). -/
inductive TargetKind where
  | registers | extendedRegisters | standardFifo | directFifo | fecWorkspaceOrFreeArea | commandStrobe
deriving DecidableEq, Repr

/-- An event of the outside world (00_scope.md R8, 30_encoding.md R131). -/
inductive Event where
  /-- the bus host shifts in one byte -/
  | transfer (b : Byte)
  /-- the chip-select level is set, true = asserted -/
  | setCS (level : Bool)
  /-- the medium delivers a frame -/
  | receive (f : List Byte)
  /-- the reset source acts -/
  | powerOnReset
deriving DecidableEq, Repr

/-- One constructor per row of the opcode table. `a` is the 6-bit standard address; `rw` and `b` are the two top bits
of a strobe header, decoded and ignored (R123, R168). -/
inductive Instr where
  | wr (a : Target)
  | rd (a : Target)
  | wrb (a : Target)
  | rdb (a : Target)
  | ewr
  | erd
  | ewrb
  | erdb
  | dwr
  | drd
  | dwrb
  | drdb
  | fwr
  | frd
  | fwrb
  | frdb
  | sres (rw b : Bool)
  | sfstxon (rw b : Bool)
  | sxoff (rw b : Bool)
  | scal (rw b : Bool)
  | srx (rw b : Bool)
  | stx (rw b : Bool)
  | sidle (rw b : Bool)
  | safc (rw b : Bool)
  | swor (rw b : Bool)
  | spwd (rw b : Bool)
  | sfrx (rw b : Bool)
  | sftx (rw b : Bool)
  | sworrst (rw b : Bool)
  | snop (rw b : Bool)
  | addrByte (x : Byte)
  | dataByte (d : Byte)
  | readoutByte (x : Byte)
  | setCs (level : Bool)
  | receive (f : List Byte)
  | powerOnReset
deriving DecidableEq, Repr

end Sys2Proof
end

