-- ==== Sys2Proof/WellFormed.lean ====
section
/-!
DEFINITION. When a term of `Instr` is an instruction of the device: the four register headers take a standard address
of at most 0x2E (40_bus_access.md R152 to R155; larger targets are other rows of the table, 30_encoding.md R122).
Every other operand may have every value.
-/

namespace Sys2Proof

/-- The standard addresses a header can carry: 0x00 to 0x2E (10_state.md R27). -/
def stdAddressOk (a : Target) : Bool := a.toNat ≤ 0x2E

/-- The well-formedness check of an instruction. -/
def Instr.wf : Instr → Bool
  | .wr a => stdAddressOk a
  | .rd a => stdAddressOk a
  | .wrb a => stdAddressOk a
  | .rdb a => stdAddressOk a
  | .ewr => true
  | .erd => true
  | .ewrb => true
  | .erdb => true
  | .dwr => true
  | .drd => true
  | .dwrb => true
  | .drdb => true
  | .fwr => true
  | .frd => true
  | .fwrb => true
  | .frdb => true
  | .sres _ _ => true
  | .sfstxon _ _ => true
  | .sxoff _ _ => true
  | .scal _ _ => true
  | .srx _ _ => true
  | .stx _ _ => true
  | .sidle _ _ => true
  | .safc _ _ => true
  | .swor _ _ => true
  | .spwd _ _ => true
  | .sfrx _ _ => true
  | .sftx _ _ => true
  | .sworrst _ _ => true
  | .snop _ _ => true
  | .addrByte _ => true
  | .dataByte _ => true
  | .readoutByte _ => true
  | .setCs _ => true
  | .receive _ => true
  | .powerOnReset => true

end Sys2Proof
end

