-- ==== Sys2Proof/Decode.lean ====
section
/-!
DEFINITION. The decoder and the encoder. A byte is decoded against the pair (bus state, byte), never alone
(30_encoding.md R120). Every header byte decodes (R127); the only thing the decoder refuses is the absence of a byte.
-/

namespace Sys2Proof

/-- The bit of a header that is RW, 1 = read (R121, D1). -/
def hdrRw (l : HeaderBits) (h : Byte) : Bool := h.getLsbD l.hdrRwBit

/-- The bit of a header that is B, 1 = burst (R121, D1). -/
def hdrBurst (l : HeaderBits) (h : Byte) : Bool := h.getLsbD l.hdrBurstBit

/-- T, bits 5:0 of a header (R121). -/
def hdrTarget (h : Byte) : Target := h.extractLsb' 0 6

/-- The header byte of RW, B and T (R121): `{RW, B, T}` with the default bits. -/
def headerByte (l : HeaderBits) (rw b : Bool) (t : Target) : Byte :=
  ((BitVec.ofBool rw).setWidth 8 <<< l.hdrRwBit) ||| ((BitVec.ofBool b).setWidth 8 <<< l.hdrBurstBit) ||| t.setWidth 8

/-- `DecodeTarget` (R122): total on the 64 values of T. -/
def decodeTarget (fecSelect : Bool) (t : Target) : TargetKind :=
  if t.toNat ≤ 0x2E then .registers
  else if t.toNat = 0x2F then .extendedRegisters
  else if t.toNat ≤ 0x3D then .commandStrobe
  else if t.toNat = 0x3E then (if fecSelect then .fecWorkspaceOrFreeArea else .directFifo)
  else .standardFifo

/-- The strobe row of code T, when T is a strobe code (R123). -/
def decodeStrobe (t : Target) (rw b : Bool) : Option Instr :=
  match t.toNat with
  | 0x30 => some (.sres rw b)
  | 0x31 => some (.sfstxon rw b)
  | 0x32 => some (.sxoff rw b)
  | 0x33 => some (.scal rw b)
  | 0x34 => some (.srx rw b)
  | 0x35 => some (.stx rw b)
  | 0x36 => some (.sidle rw b)
  | 0x37 => some (.safc rw b)
  | 0x38 => some (.swor rw b)
  | 0x39 => some (.spwd rw b)
  | 0x3A => some (.sfrx rw b)
  | 0x3B => some (.sftx rw b)
  | 0x3C => some (.sworrst rw b)
  | 0x3D => some (.snop rw b)
  | _ => none

/-- The instruction of a header byte (R121, R122, R123). The four target groups other than the strobes pick their row
by the RW and B bits. -/
def decodeHeader (l : HeaderBits) (h : Byte) : Instr :=
  let t := hdrTarget h
  let rw := hdrRw l h
  let b := hdrBurst l h
  if t.toNat ≤ 0x2E then
    match rw, b with
    | false, false => .wr t
    | true, false => .rd t
    | false, true => .wrb t
    | true, true => .rdb t
  else if t.toNat = 0x2F then
    match rw, b with
    | false, false => .ewr
    | true, false => .erd
    | false, true => .ewrb
    | true, true => .erdb
  else match decodeStrobe t rw b with
    | some i => i
    | none =>
      if t.toNat = 0x3E then
        match rw, b with
        | false, false => .dwr
        | true, false => .drd
        | false, true => .dwrb
        | true, true => .drdb
      else
        match rw, b with
        | false, false => .fwr
        | true, false => .frd
        | false, true => .fwrb
        | true, true => .frdb

/-- The instruction a byte is, in the bus state it arrives in (R120, R124, R125). -/
def decodeByte (l : HeaderBits) (bus : BusState) (b : Byte) : Instr :=
  match bus with
  | .waitingForHeader => decodeHeader l b
  | .waitingForAddress => .addrByte b
  | .waitingForData => .dataByte b
  | .readout => .readoutByte b

/-- Why the decoder answers nothing. -/
inductive DecodeRefusal where
  /-- there is no byte to decode -/
  | noByte
deriving DecidableEq, Repr

/-- The decoder on the host's byte stream: one instruction and the bytes that follow it. -/
def decode (l : HeaderBits) (bus : BusState) : List Byte → Except DecodeRefusal (Instr × List Byte)
  | [] => .error .noByte
  | b :: rest => .ok (decodeByte l bus b, rest)

/-- The instruction an event of the outside world is (R131). -/
def decodeEvent (l : HeaderBits) (bus : BusState) : Event → Instr
  | .transfer b => decodeByte l bus b
  | .setCS level => .setCs level
  | .receive f => .receive f
  | .powerOnReset => .powerOnReset

/-- The instruction the decoder reads from the bits of a table row, under the default header bits. Every row with bits is
one byte; it is read where a machine after reset reads it, in WaitingForHeader. -/
def decodeTableWord (nbits w : Nat) : Option Instr :=
  if nbits = 8 then
    match decode Machine.defaultConfig.header .waitingForHeader [BitVec.ofNat 8 w] with
    | .ok (i, _) => some i
    | .error _ => none
  else none

/-- The bytes of an instruction, from the encoding column of the opcode table. The three events that are no bytes have
none. -/
def encode (l : HeaderBits) : Instr → List Byte
  | .wr a => [headerByte l false false a]
  | .rd a => [headerByte l true false a]
  | .wrb a => [headerByte l false true a]
  | .rdb a => [headerByte l true true a]
  | .ewr => [headerByte l false false 0x2F]
  | .erd => [headerByte l true false 0x2F]
  | .ewrb => [headerByte l false true 0x2F]
  | .erdb => [headerByte l true true 0x2F]
  | .dwr => [headerByte l false false 0x3E]
  | .drd => [headerByte l true false 0x3E]
  | .dwrb => [headerByte l false true 0x3E]
  | .drdb => [headerByte l true true 0x3E]
  | .fwr => [headerByte l false false 0x3F]
  | .frd => [headerByte l true false 0x3F]
  | .fwrb => [headerByte l false true 0x3F]
  | .frdb => [headerByte l true true 0x3F]
  | .sres rw b => [headerByte l rw b 0x30]
  | .sfstxon rw b => [headerByte l rw b 0x31]
  | .sxoff rw b => [headerByte l rw b 0x32]
  | .scal rw b => [headerByte l rw b 0x33]
  | .srx rw b => [headerByte l rw b 0x34]
  | .stx rw b => [headerByte l rw b 0x35]
  | .sidle rw b => [headerByte l rw b 0x36]
  | .safc rw b => [headerByte l rw b 0x37]
  | .swor rw b => [headerByte l rw b 0x38]
  | .spwd rw b => [headerByte l rw b 0x39]
  | .sfrx rw b => [headerByte l rw b 0x3A]
  | .sftx rw b => [headerByte l rw b 0x3B]
  | .sworrst rw b => [headerByte l rw b 0x3C]
  | .snop rw b => [headerByte l rw b 0x3D]
  | .addrByte x => [x]
  | .dataByte d => [d]
  | .readoutByte x => [x]
  | .setCs _ => []
  | .receive _ => []
  | .powerOnReset => []

/-- The bus state an instruction is read in (R120); the events that are no bytes are read in every state. -/
def readIn : Instr → BusState
  | .addrByte _ => .waitingForAddress
  | .dataByte _ => .waitingForData
  | .readoutByte _ => .readout
  | _ => .waitingForHeader

/-- Whether an instruction is an event rather than a byte (format EVENT, R131). -/
def Instr.isEvent : Instr → Bool
  | .setCs _ => true
  | .receive _ => true
  | .powerOnReset => true
  | _ => false

/-- The event an instruction arrives as (R131): a transfer of its byte, or the event it is. -/
def encodeEvent (l : HeaderBits) (i : Instr) : Event :=
  match encode l i with
  | b :: _ => .transfer b
  | [] =>
    match i with
    | .setCs level => .setCS level
    | .receive f => .receive f
    | _ => .powerOnReset

/-- How many bytes a command has (R126): exactly `n`, or `n` bytes before a run of data bytes that only chip-select
deassertion ends. -/
inductive CommandLength where
  | exactly (n : Nat)
  | openAfter (n : Nat)
deriving DecidableEq, Repr

/-- The length of the command that a header byte starts (R126). -/
def commandLength (l : HeaderBits) (h : Byte) : CommandLength :=
  match decodeTarget false (hdrTarget h), hdrBurst l h with
  | .commandStrobe, _ => .exactly 1
  | .registers, false => .exactly 2
  | .standardFifo, false => .exactly 2
  | .registers, true => .openAfter 1
  | .standardFifo, true => .openAfter 1
  | _, false => .exactly 3
  | _, true => .openAfter 2

/-- The source-level commands of R130. -/
inductive Pseudo where
  | write (a : Target) (v : Byte)
  | read (a : Target)
  | bwrite (a : Target) (vs : List Byte)
  | bread (a : Target) (n : Nat)
  | ewrite (x v : Byte)
  | eread (x : Byte)
  | txput (vs : List Byte)
  | rxget (n : Nat)
  | strobe (t : Target)
deriving DecidableEq, Repr

/-- The bounds of R130: a standard address at most 0x2E, at least one value, and a strobe code. -/
def Pseudo.wf : Pseudo → Bool
  | .write a _ => stdAddressOk a
  | .read a => stdAddressOk a
  | .bwrite a vs => stdAddressOk a && !vs.isEmpty
  | .bread a n => stdAddressOk a && decide (1 ≤ n)
  | .ewrite _ _ => true
  | .eread _ => true
  | .txput vs => !vs.isEmpty
  | .rxget n => decide (1 ≤ n)
  | .strobe t => decide (0x30 ≤ t.toNat) && decide (t.toNat ≤ 0x3D)

/-- The event list a source-level command expands to (R130). DESIGN CHOICE (notes/assumptions/23.md): the function is total.
R130 gives an expansion only within the bounds of `Pseudo.wf`; outside them the same pattern of bytes is answered, and it
stands for no source-level command. -/
def Pseudo.expand (l : HeaderBits) : Pseudo → List Event
  | .write a v => [.transfer (headerByte l false false a), .transfer v]
  | .read a => [.transfer (headerByte l true false a), .transfer 0x00]
  | .bwrite a vs => .transfer (headerByte l false true a) :: vs.map .transfer ++ [.setCS false, .setCS true]
  | .bread a n =>
    .transfer (headerByte l true true a) :: List.replicate n (.transfer 0x00) ++ [.setCS false, .setCS true]
  | .ewrite x v => [.transfer (headerByte l false false 0x2F), .transfer x, .transfer v]
  | .eread x => [.transfer (headerByte l true false 0x2F), .transfer x, .transfer 0x00]
  | .txput vs => .transfer (headerByte l false true 0x3F) :: vs.map .transfer ++ [.setCS false, .setCS true]
  | .rxget n =>
    .transfer (headerByte l true true 0x3F) :: List.replicate n (.transfer 0x00) ++ [.setCS false, .setCS true]
  | .strobe t => [.transfer (headerByte l false false t)]

end Sys2Proof
end

