-- ==== Sys2Proof/Machine/Bank.lean ====
section
/-!
DEFINITION. The register bank as memory (10_state.md R27, 20_memory.md R80, R81, R95, R100): the two byte spaces held as
one list of (key, byte) pairs in one canonical form. What an unlisted key reads as is its reset value
(`resetOf`), so the bank after reset lists nothing (notes/assumptions/7.md).
-/

namespace Sys2Proof

/-! ### Fields (R86) -/

/-- Whether a field lies in a cell. -/
def FieldPos.liesIn (p : FieldPos) (sp : Space) (a : Byte) : Bool := p.space == sp && p.addr == a

/-- A field's slice of its cell's byte, read at width `w` (R27). -/
def FieldPos.slice (p : FieldPos) (w : Nat) (v : Byte) : BitVec w := (v.extractLsb' p.lo p.width).setWidth w

/-- The byte that holds a field's value in the field's bits and zeros elsewhere. -/
def FieldPos.place {w : Nat} (p : FieldPos) (v : BitVec w) : Byte := ((v.setWidth p.width).setWidth 8) <<< p.lo

/-- The bits of a field in its cell. -/
def FieldPos.mask (p : FieldPos) : Byte := p.place (BitVec.allOnes p.width)

/-- The fields that lie in stored cells (R28 to R36, R38). -/
def RegMap.storedFields (r : RegMap) : List FieldPos :=
  [r.iocfg0.cfg, r.iocfg0.inv, r.iocfg1.cfg, r.iocfg1.inv, r.iocfg2.cfg, r.iocfg2.inv, r.iocfg3.cfg, r.iocfg3.inv,
   r.crcAutoflush, r.fifoThr, r.deviceAddr, r.fgModeEn, r.addrCheckCfg, r.crcCfg, r.appendStatus, r.lengthConfig,
   r.rxoffMode, r.txoffMode, r.termOnBadPacket, r.packetLength, r.freq2, r.freq1, r.freq0]

/-- The fields that WRITE_ONLY_READBACK hides (R80, D16). -/
def RegMap.writeOnlyFields (r : RegMap) : List FieldPos := [r.crcCfg, r.freq2, r.freq1, r.freq0]

/-- The fields that are computed on read (R39 to R41). -/
def RegMap.computedFields (r : RegMap) : List FieldPos :=
  [r.rssi1, r.pktCrcOk, r.lqiEst, r.partNumber, r.numTxBytes, r.numRxBytes]

end Sys2Proof

namespace Sys2Proof.Machine

/-- Memory: keys strictly rising, no entry equal to what an unlisted key reads as. -/
abbrev Memory := List Host.Cell

/-- The key of a cell: standard address a at a, extended address x at 0x100 + x. -/
def cellKey (sp : Space) (a : Byte) : Nat :=
  match sp with
  | .std => a.toNat
  | .ext => 0x100 + a.toNat

/-- RESET_VALUES by key, which is what an unlisted key reads as (R100). A stored cell the table does not list resets
to 0x00 (notes/assumptions/27.md). -/
def resetOf (c : Config) (k : Nat) : Byte :=
  if k < 0x100 then c.resetStd.getD k 0x00
  else ((c.resetExt.find? fun e => 0x100 + e.1.toNat == k).map Prod.snd).getD 0x00

/-- The byte at a key. -/
def Memory.read (c : Config) : Memory → Nat → Byte
  | [], k => resetOf c k
  | (k', v) :: m, k => if k' = k then v else Memory.read c m k

/-- The memory with a byte stored at a key. Storing the reset value removes the entry. -/
def Memory.write (c : Config) (k : Nat) (v : Byte) : Memory → Memory
  | [] => if v = resetOf c k then [] else [(k, v)]
  | (k', w) :: m =>
    if k < k' then (if v = resetOf c k then (k', w) :: m else (k, v) :: (k', w) :: m)
    else if k = k' then (if v = resetOf c k then m else (k, v) :: m)
    else (k', w) :: Memory.write c k v m

/-- The canonical form. -/
def Memory.wf (c : Config) : Memory → Bool
  | [] => true
  | (k, v) :: m => v != resetOf c k && m.all (fun e => decide (k < e.1)) && Memory.wf c m

/-- A field of the register bank, read at width `w`. -/
def bankField (c : Config) (m : Memory) (p : FieldPos) (w : Nat) : BitVec w :=
  p.slice w (Memory.read c m (cellKey p.space p.addr))

/-- What REG_MAP makes of an address (R27, R80). -/
inductive CellKind where
  | stored | computed | unbacked
deriving DecidableEq, Repr

/-- Whether an address is declared as a stored cell (R27, D14): a named field lies there, or it is one of the declared
standard cells, or of EXTRA_EXT_CELLS. -/
def storedCell (c : Config) (sp : Space) (a : Byte) : Bool :=
  c.regMap.storedFields.any (·.liesIn sp a) ||
    match sp with
    | .std => decide (a ∈ c.regMap.stdCells)
    | .ext => decide (a ∈ c.extraExtCells)

/-- The kind of an address (R27). A computed cell wins over a stored one (notes/assumptions/11.md). -/
def cellKind (c : Config) (sp : Space) (a : Byte) : CellKind :=
  if c.regMap.computedFields.any (·.liesIn sp a) then .computed
  else if storedCell c sp a then .stored
  else .unbacked

/-- The pair CRC_TABLE gives a value of CRC_CFG, none for 0, which leaves the pair as it is (R84, R237). -/
def crcPairOf (c : Config) (cfg : BitVec 2) : Option CrcPair :=
  if cfg = 1 then some c.crcTable.mode1
  else if cfg = 2 then some c.crcTable.mode2
  else if cfg = 3 then some c.crcTable.mode3
  else none

/-- The pair after reset: that of CRC_CFG's reset value, or `CRC_TABLE(1)` if that value is 0 (R43, R100). -/
def resetPair (c : Config) : CrcPair :=
  (crcPairOf c (bankField c [] c.regMap.crcCfg 2)).getD c.crcTable.mode1

end Sys2Proof.Machine
end

