-- ==== Sys2Proof/Machine/State.lean ====
section
/-!
DEFINITION. The machine's state (10_state.md R53), its faults and refusals, and the state after reset
(70_reset_and_hazards.md R371). The last five fields are the model's own (notes/assumptions/1.md to 4.md).
-/

namespace Sys2Proof.Machine

/-- Why a step stops with a fault. -/
inductive Fault where
  /-- Raised by the meanings of ADDR_BYTE, DATA_BYTE and READOUT_BYTE when no access with such a phase is in progress:
  the descriptor is dead (R23), or of kind CommandStrobe, which has no operand bytes (R126). No run from reset
  reaches it (`State.Inv` in Safety.lean excludes it). Safe (notes/assumptions/8.md). -/
  | noAccess
deriving DecidableEq, Repr

/-- Why a step has no meaning. -/
inductive Refusal where
  /-- Raised by an arm of `exec` whose instruction has no meaning yet. No arm raises it. Safe. -/
  | notModelled (mnemonic : String)
deriving DecidableEq, Repr

/-- The access descriptor (R23). -/
structure AccessDescriptor where
  addr : Byte
  isRead : Bool
  isBurst : Bool
  kind : TargetKind
deriving DecidableEq, Repr

/-- A configurable GPIO line (R311). -/
inductive Line where
  | line0 | line1 | line2 | line3
deriving DecidableEq, Repr

/-- The output levels of the five lines (R48); `miso` is line 4. -/
structure Gpio where
  line0 : Bool
  line1 : Bool
  line2 : Bool
  line3 : Bool
  miso : Bool
deriving DecidableEq, Repr

/-- The diagnostic codes (60_exceptions.md R341), in the order of their numbers 1 to 19. -/
inductive DiagCode where
  | notSelected | accessWhileOff | unknownStrobe | unbackedRead | unbackedWrite | readOnlyWrite
  | rxOverflow | txOverflow | rxUnderflow | txUnderflow | shortFrame | badLength | badAddress | badCrc
  | crcMismatchKept | lengthModeUnsupported | modeSwitchUnsupported | unsupportedGpioRole | unmodelledAccess
deriving DecidableEq, Repr

/-- An entry of an event's output trace (00_scope.md R11 (d), 10_state.md R52). -/
inductive OutEvent where
  | frameSent (f : List Byte)
  | blink (line : Line)
  | log (code : DiagCode)
deriving DecidableEq, Repr

/-- Why the sticky mark is set (60_exceptions.md R358 gives the only reason). -/
inductive RefuseReason where
  | directAccessUnmodelled
deriving DecidableEq, Repr

/-- The whole state of one device instance (R53), and the model's own fields. -/
@[ext]
structure State where
  /-- chip mode (R24) -/
  mode : ChipMode
  /-- bus access state (R22) -/
  bus : BusState
  /-- access descriptor, none = dead (R23) -/
  desc : Option AccessDescriptor
  /-- the stored cells of both register spaces (R27 to R38) -/
  bank : Memory
  /-- active CRC polynomial (R43) -/
  activePoly : Word16
  /-- active CRC seed (R43) -/
  activeSeed : Word16
  /-- RX FIFO, head first (R45) -/
  rxFifo : List Byte
  /-- TX FIFO, head first (R45) -/
  txFifo : List Byte
  /-- pending-frame slot (R42) -/
  pending : Option (List Byte)
  /-- sync pulses not yet consumed (R46) -/
  syncPulse : Nat
  /-- hysteresis of the TX-full role (R47) -/
  txFullLatch : Bool
  /-- chip-select level, true = asserted (R48) -/
  cs : Bool
  /-- output levels of the five lines (R48) -/
  gpio : Gpio
  /-- RSSI top byte of the last processed frame (R49) -/
  rssiTop : Byte
  /-- LQI of the last processed frame (R49) -/
  lqi : BitVec 7
  /-- CRC result of the last frame that reached the CRC step (R49) -/
  lastCrcOk : Bool
  /-- sticky refusal mark (R44) -/
  refused : Bool
  /-- its reason (R44); `none` at power-on and kept by SRES with the mark: DESIGN CHOICE (notes/assumptions/10.md) -/
  refusedReason : Option RefuseReason
  /-- MODEL: the response byte of the last event, if it was a transfer (R52) -/
  resp : Option Byte
  /-- MODEL: the output trace of the last event (R52) -/
  out : List OutEvent
  /-- MODEL: the events still to come, first first (R8) -/
  input : List Event
  /-- MODEL: how many draws have been taken (R51 (b)) -/
  draws : Nat
  /-- MODEL: the configuration record (R7), which no step writes -/
  cfg : Config
deriving DecidableEq, Repr

/-- The device right after power-on, in the default configuration (R371). -/
def State.reset : State where
  mode := .off
  bus := .waitingForHeader
  desc := none
  bank := []
  activePoly := (resetPair defaultConfig).poly
  activeSeed := (resetPair defaultConfig).seed
  rxFifo := []
  txFifo := []
  pending := none
  syncPulse := 0
  txFullLatch := false
  cs := false
  gpio := { line0 := false, line1 := false, line2 := false, line3 := false, miso := true }
  rssiTop := 0x00
  lqi := 0
  lastCrcOk := false
  refused := false
  refusedReason := none
  resp := none
  out := []
  input := []
  draws := 0
  cfg := defaultConfig

end Sys2Proof.Machine
end

