-- ==== Sys2Proof/Machine/Operands.lean ====
section
/-!
DEFINITION. What the rules read from the state: cells, the named fields of the register bank (10_state.md R28 to R38),
the frequency word, and the fields of a frame's headers (43_frame_receive.md R253, R254, R273).
-/

namespace Sys2Proof.Machine

/-- The stored byte of a cell. -/
def State.cell (s : State) (sp : Space) (a : Byte) : Byte :=
  Memory.read s.cfg s.bank (cellKey sp a)

/-- A field of the register bank, at the place REG_MAP gives it. -/
def State.field (s : State) (p : FieldPos) (w : Nat) : BitVec w :=
  bankField s.cfg s.bank p w

/-- A one-bit field. -/
def State.flag (s : State) (p : FieldPos) : Bool := s.field p 1 == 1

/-- CRC_AUTOFLUSH (R29). -/
def crcAutoflush (s : State) : Bool := s.flag s.cfg.regMap.crcAutoflush

/-- FIFO_THR, 0 to 127 (R29). -/
def fifoThr (s : State) : BitVec 7 := s.field s.cfg.regMap.fifoThr 7

/-- DEVICE_ADDR (R30). -/
def deviceAddr (s : State) : Byte := s.field s.cfg.regMap.deviceAddr 8

/-- `gMode`: the extended/"g" PHY mode (R31). -/
def gMode (s : State) : Bool := s.flag s.cfg.regMap.fgModeEn

/-- ADDR_CHECK_CFG (R32). -/
def addrCheckCfg (s : State) : BitVec 2 := s.field s.cfg.regMap.addrCheckCfg 2

/-- CRC_CFG (R32). -/
def crcCfg (s : State) : BitVec 2 := s.field s.cfg.regMap.crcCfg 2

/-- APPEND_STATUS (R32). -/
def appendStatus (s : State) : Bool := s.flag s.cfg.regMap.appendStatus

/-- LENGTH_CONFIG (R33). -/
def lengthConfig (s : State) : BitVec 2 := s.field s.cfg.regMap.lengthConfig 2

/-- RXOFF_MODE (R34). -/
def rxoffMode (s : State) : BitVec 2 := s.field s.cfg.regMap.rxoffMode 2

/-- TXOFF_MODE (R35). -/
def txoffMode (s : State) : BitVec 2 := s.field s.cfg.regMap.txoffMode 2

/-- TERM_ON_BAD_PACKET_EN (R35). -/
def termOnBadPacket (s : State) : Bool := s.flag s.cfg.regMap.termOnBadPacket

/-- PACKET_LENGTH (R36). -/
def packetLength (s : State) : Byte := s.field s.cfg.regMap.packetLength 8

/-- `crcEnabled` (42_crc_engine.md R234). -/
def crcEnabled (s : State) : Bool := crcCfg s != 0

/-- The mode an off-mode field names, in the order the source gives (R34, R35). -/
def offMode (v : BitVec 2) : ChipMode :=
  if v = 0 then .idle else if v = 1 then .fastTxReady else if v = 2 then .transmitMode else .receiveMode

/-- The fields that configure a line (45_gpio_mux.md R311). -/
def iocfg (s : State) : Line → IocfgFields
  | .line0 => s.cfg.regMap.iocfg0
  | .line1 => s.cfg.regMap.iocfg1
  | .line2 => s.cfg.regMap.iocfg2
  | .line3 => s.cfg.regMap.iocfg3

/-- `IOCFG(i)[5:0]`: the role code of a line (R28). -/
def roleCode (s : State) (i : Line) : BitVec 6 := s.field (iocfg s i).cfg 6

/-- `IOCFG(i)[6]`: the INV bit of a line (R28). -/
def invBit (s : State) (i : Line) : Bool := s.flag (iocfg s i).inv

/-- FREQ, FREQ2 the most significant byte (R38, R92 (a)). -/
def freq (s : State) : Word24 :=
  s.field s.cfg.regMap.freq2 8 ++ s.field s.cfg.regMap.freq1 8 ++ s.field s.cfg.regMap.freq0 8

/-- `Channel()`, derived on read; no rule of the device reads it (R38, R85). -/
def channel (s : State) : Int := Config.channelOf (freq s)

/-- Byte i of a frame, for an i below its length (00_scope.md R10). -/
def frameByte (f : List Byte) (i : Nat) : Byte := f.getD i 0x00

/-- Length of the PHY header (43_frame_receive.md R253, R254). -/
def headerLength (s : State) : Nat := if gMode s then 2 else 1

/-- The declared length of a frame: its first byte, or the five low bits of it under Variable5LSB, in legacy mode
(R253); the 11-bit length in g mode, whatever LENGTH_CONFIG is (R254). -/
def declaredLength (s : State) (f : List Byte) : Nat :=
  if gMode s then
    ((frameByte f 0).extractLsb' s.cfg.phr.lengthHighLo 3 ++ frameByte f 1 : BitVec 11).toNat
  else if lengthConfig s = 3 then ((frameByte f 0).extractLsb' 0 5).toNat
  else (frameByte f 0).toNat

/-- The address byte of a legacy frame (R253). -/
def addressByte (s : State) (f : List Byte) : Byte := frameByte f s.cfg.phr.addressIndex

/-- MS, the mode-switch bit of a first g-mode header byte (R254). -/
def modeSwitchBit (s : State) (h0 : Byte) : Bool := h0.getLsbD s.cfg.phr.msBit

/-- The FCS type bit of a first g-mode header byte: 0 asks for a 4-byte FCS (R254). -/
def fcsTypeBit (s : State) (h0 : Byte) : Bool := h0.getLsbD s.cfg.phr.fcsTypeBit

/-- `FcsLen` (42_crc_engine.md R235). -/
def fcsLen (s : State) (h0 : Byte) : Nat :=
  if !crcEnabled s then 0 else if gMode s && !fcsTypeBit s h0 then 4 else 2

/-- The frame type of a MAC header, its frame control read little-endian (R273, D31). -/
def macFrameType (m : List Byte) : BitVec 3 :=
  (frameByte m 1 ++ frameByte m 0 : BitVec 16).extractLsb' 0 3

/-- The acknowledge-request bit of a MAC header (R273, D31). -/
def macAckRequest (m : List Byte) : Bool := (frameByte m 1 ++ frameByte m 0 : BitVec 16).getLsbD 5

/-- The sequence number of a MAC header (R273, D31). -/
def macSequence (m : List Byte) : Byte := frameByte m 2

end Sys2Proof.Machine
end

