-- ==== Sys2Proof/Machine/Flags.lean ====
section
/-!
DEFINITION. The device's only flags (10_state.md R50): the chip status byte, a function of the mode (R26), and the CRC
result of the last frame, shown in LQI_VAL (R40) and in the second appended status byte (43_frame_receive.md R270).
-/

namespace Sys2Proof.Machine

/-- MODE_CODE of a mode (R26). -/
def modeCodeOf (c : ModeCodes) : ChipMode → BitVec 4
  | .off => c.off
  | .idle => c.idle
  | .receiveMode => c.receiveMode
  | .transmitMode => c.transmitMode
  | .fastTxReady => c.fastTxReady
  | .calibrate => c.calibrate
  | .settling => c.settling
  | .rxFifoError => c.rxFifoError
  | .txFifoError => c.txFifoError

/-- `Status()`: the mode's code in bits 7:4, zero below (R26). -/
def status (s : State) : Byte := modeCodeOf s.cfg.modeCode s.mode ++ (0 : BitVec 4)

/-- `{crcOk, lqi[6:0]}`: the second status byte (R270). -/
def crcLqiByte (crcOk : Bool) (lqi : BitVec 7) : Byte := BitVec.ofBool crcOk ++ lqi

/-- The part of a cell's byte that a computed field gives: its value in its bits, if it lies there. -/
def computedPart {w : Nat} (p : FieldPos) (sp : Space) (a : Byte) (v : BitVec w) : Byte :=
  if p.liesIn sp a then p.place v else 0

/-- The value a computed cell reads: every computed field that lies there, in its bits (R39 to R41). -/
def computedValue (s : State) (sp : Space) (a : Byte) : Byte :=
  let r := s.cfg.regMap
  computedPart r.rssi1 sp a s.rssiTop |||
  computedPart r.pktCrcOk sp a (BitVec.ofBool s.lastCrcOk) |||
  computedPart r.lqiEst sp a s.lqi |||
  computedPart r.partNumber sp a s.cfg.partNumber |||
  computedPart r.numTxBytes sp a (BitVec.ofNat 8 s.txFifo.length) |||
  computedPart r.numRxBytes sp a (BitVec.ofNat 8 s.rxFifo.length)

/-- The number of a diagnostic code (60_exceptions.md R341). -/
def DiagCode.number : DiagCode → Nat
  | .notSelected => 1
  | .accessWhileOff => 2
  | .unknownStrobe => 3
  | .unbackedRead => 4
  | .unbackedWrite => 5
  | .readOnlyWrite => 6
  | .rxOverflow => 7
  | .txOverflow => 8
  | .rxUnderflow => 9
  | .txUnderflow => 10
  | .shortFrame => 11
  | .badLength => 12
  | .badAddress => 13
  | .badCrc => 14
  | .crcMismatchKept => 15
  | .lengthModeUnsupported => 16
  | .modeSwitchUnsupported => 17
  | .unsupportedGpioRole => 18
  | .unmodelledAccess => 19

/-- The classes of R341. -/
inductive DiagClass where
  | protocol | malformedFrame | resource | ignored | transmit | refusal
deriving DecidableEq, Repr

/-- The class of a diagnostic code (R341). -/
def DiagCode.cls : DiagCode → DiagClass
  | .notSelected => .protocol
  | .accessWhileOff => .protocol
  | .unknownStrobe => .ignored
  | .unbackedRead => .ignored
  | .unbackedWrite => .ignored
  | .readOnlyWrite => .ignored
  | .rxOverflow => .resource
  | .txOverflow => .resource
  | .rxUnderflow => .resource
  | .txUnderflow => .resource
  | .shortFrame => .malformedFrame
  | .badLength => .malformedFrame
  | .badAddress => .malformedFrame
  | .badCrc => .malformedFrame
  | .crcMismatchKept => .malformedFrame
  | .lengthModeUnsupported => .malformedFrame
  | .modeSwitchUnsupported => .transmit
  | .unsupportedGpioRole => .ignored
  | .unmodelledAccess => .refusal

end Sys2Proof.Machine
end

