-- ==== Sys2Proof/Machine/Ops.lean ====
section
/-!
DEFINITION. The named operations over the state: the trace, the sticky mark, register read and write (20_memory.md R80 to
R85), the FIFO primitives (R87 to R91), the reset routine (70_reset_and_hazards.md R372), and the start of an event.
The device has no exception entry and no return from one (60_exceptions.md R340, R349, R350), so there is no operation
for them; `refuse` (R358) is its one special outcome.
-/

namespace Sys2Proof.Machine

/-! ### Trace, mark, mode -/

/-- `emit E` (00_scope.md R11 (d)). -/
def State.emit (e : OutEvent) (s : State) : State := { s with out := s.out ++ [e] }

/-- `emit Log(code)`. -/
def State.log (code : DiagCode) (s : State) : State := s.emit (.log code)

/-- `refuse(reason)`: sets the sticky mark and goes on (10_state.md R44, 60_exceptions.md R358). -/
def State.refuse (r : RefuseReason) (s : State) : State := { s with refused := true, refusedReason := some r }

/-- A mode written as such: what `SetMode` does where it is no entry into ReceiveMode with a frame pending (R25). -/
def State.writeMode (m : ChipMode) (s : State) : State := { s with mode := m }

/-- The bus state and the descriptor after a byte (R22, R23). -/
def State.setBus (b : BusState) (d : Option AccessDescriptor) (s : State) : State := { s with bus := b, desc := d }

/-- The response of the transfer in progress (R52). -/
def State.respond (r : Byte) (s : State) : State := { s with resp := some r }

/-- The start of an event: no response, nothing emitted (R52). -/
def State.beginEvent (s : State) : State := { s with resp := none, out := [] }

/-! ### FIFO pair -/

/-- One of the FIFO pair (R45). -/
inductive Fifo where
  | rx | tx
deriving DecidableEq, Repr

/-- The contents of a FIFO, head first. -/
def State.fifo (s : State) : Fifo → List Byte
  | .rx => s.rxFifo
  | .tx => s.txFifo

/-- A FIFO with new contents. -/
def State.setFifo (q : Fifo) (l : List Byte) (s : State) : State :=
  match q with
  | .rx => { s with rxFifo := l }
  | .tx => { s with txFifo := l }

/-- The code an enqueue into a full FIFO logs (R87). -/
def overflowCode : Fifo → DiagCode
  | .rx => .rxOverflow
  | .tx => .txOverflow

/-- The code a dequeue from an empty FIFO logs (R88). -/
def underflowCode : Fifo → DiagCode
  | .rx => .rxUnderflow
  | .tx => .txUnderflow

/-- `Enqueue(q, v)` (R87). -/
def enqueue (q : Fifo) (v : Byte) (s : State) : State :=
  if (s.fifo q).length = s.cfg.fifoCapacity then s.log (overflowCode q) else s.setFifo q (s.fifo q ++ [v])

/-- `Enqueue` of each byte in order (43_frame_receive.md R271). -/
def enqueueAll (q : Fifo) : List Byte → State → State
  | [], s => s
  | v :: vs, s => enqueueAll q vs (enqueue q v s)

/-- `Dequeue(q)` (R88). -/
def dequeue (q : Fifo) (s : State) : Byte × State :=
  match s.fifo q with
  | [] => (0x00, s.log (underflowCode q))
  | v :: rest => (v, s.setFifo q rest)

/-- `Peek(q, i)` (R89). -/
def peek (q : Fifo) (i : Nat) (s : State) : Byte := (s.fifo q).getD i 0x00

/-- `Clear(q)` (R90). -/
def clearFifo (q : Fifo) (s : State) : State := s.setFifo q []

/-- `Count(q)` (R91). -/
def count (q : Fifo) (s : State) : Nat := (s.fifo q).length

/-! ### Register bank -/

/-- A stored cell with a new byte. -/
def State.setCell (sp : Space) (a v : Byte) (s : State) : State :=
  { s with bank := Memory.write s.cfg (cellKey sp a) v s.bank }

/-- The pair the 16-bit CRC uses, replaced (R43). -/
def State.setCrcPair (p : CrcPair) (s : State) : State := { s with activePoly := p.poly, activeSeed := p.seed }

/-- The bits of a cell that WRITE_ONLY_READBACK = Zero hides: those of the write-only fields that lie there (R80, D16). -/
def hiddenBits (c : Config) (sp : Space) (a : Byte) : Byte :=
  (c.regMap.writeOnlyFields.filter (·.liesIn sp a)).foldl (fun m p => m ||| p.mask) 0

/-- What a stored cell reads back as: the stored byte, or under WRITE_ONLY_READBACK = Zero with the hidden bits as zero
(R80, D16). -/
def readBack (s : State) (sp : Space) (a v : Byte) : Byte :=
  match s.cfg.writeOnlyReadback with
  | .stored => v
  | .zero => v &&& ~~~hiddenBits s.cfg sp a

/-- `RegRead(space, a)` (R80, R82). -/
def regRead (sp : Space) (a : Byte) (s : State) : Byte × State :=
  match cellKind s.cfg sp a with
  | .stored => (readBack s sp a (s.cell sp a), s)
  | .computed => (computedValue s sp a, s)
  | .unbacked => (0x00, s.log .unbackedRead)

/-- `CrcCfgWritten(m)` (R84). -/
def crcCfgWritten (m : BitVec 2) (s : State) : State :=
  match crcPairOf s.cfg m with
  | some p => s.setCrcPair p
  | none => s

/-- `RegWrite(space, a, v)` (R81 to R84). -/
def regWrite (sp : Space) (a v : Byte) (s : State) : State :=
  match cellKind s.cfg sp a with
  | .stored =>
    let t := s.setCell sp a v
    if s.cfg.regMap.crcCfg.liesIn sp a then crcCfgWritten (s.cfg.regMap.crcCfg.slice 2 v) t else t
  | .computed => s.log .readOnlyWrite
  | .unbacked => s.log .unbackedWrite

/-! ### Reset -/

/-- `RegReset()` (R100): every stored cell back to its reset value, and the pair with it. -/
def regReset (s : State) : State := ({ s with bank := [] } : State).setCrcPair (resetPair s.cfg)

/-- `DeviceReset(keepCS)` (70_reset_and_hazards.md R372). The mode is a direct write. The reason of the mark goes with the
mark: DESIGN CHOICE (notes/assumptions/10.md). -/
def deviceReset (keepCS : Bool) (s : State) : State :=
  let cs := keepCS && s.cs
  let t := regReset s
  { t with
    mode := .off
    bus := .waitingForHeader
    desc := none
    rxFifo := []
    txFifo := []
    pending := none
    syncPulse := 0
    txFullLatch := false
    rssiTop := 0x00
    lqi := 0
    lastCrcOk := false
    cs := cs
    refused := keepCS && s.refused
    refusedReason := if keepCS then s.refusedReason else none
    gpio := { line0 := false, line1 := false, line2 := false, line3 := false, miso := !cs } }

/-! ### Draws -/

/-- The two draws of a frame that enters processing (43_frame_receive.md R251). -/
def drawSignal (s : State) : State :=
  { s with rssiTop := Config.freeRssi s.draws, lqi := Config.freeLqi s.draws, draws := s.draws + 1 }

/-- The draw of a refused direct read (40_bus_access.md R179). -/
def drawByte (s : State) : Byte × State := (Config.freeByte s.draws, { s with draws := s.draws + 1 })

end Sys2Proof.Machine
end

