-- ==== Sys2Proof/Machine/Crc.lean ====
section
/-!
DEFINITION. The CRC engine (42_crc_engine.md R230 to R237). One engine of width w, shifting from either end; CRC-16 with
the active pair and CRC-32 with its fixed one are its two instances (R238). The numbers of the algorithm records are the
spec's decisions D17 and D18 (notes/assumptions/13.md).
-/

namespace Sys2Proof.Machine

/-- One bit of the engine (R230: from the top; R232: from the bottom). -/
def crcBit {w : Nat} (reflected : Bool) (poly c : BitVec w) : BitVec w :=
  if reflected then (if c.getLsbD 0 then (c >>> 1) ^^^ poly else c >>> 1)
  else (if c.getLsbD (w - 1) then (c <<< 1) ^^^ poly else c <<< 1)

/-- One byte of the engine. -/
def crcByte {w : Nat} (reflected : Bool) (poly c : BitVec w) (d : Byte) : BitVec w :=
  let c := if reflected then c ^^^ d.setWidth w else c ^^^ (d.setWidth w <<< (w - 8))
  Nat.repeat (crcBit reflected poly) 8 c

/-- The engine over a list of bytes. -/
def crcRun {w : Nat} (algo : CrcAlgo w) (poly init : BitVec w) (data : List Byte) : BitVec w :=
  data.foldl (crcByte algo.reflected poly) init ^^^ algo.xorOut

/-- `Crc16(poly, seed, data)` (R230). -/
def crc16 (c : Config) (poly seed : Word16) (data : List Byte) : Word16 := crcRun c.crc16Algo poly seed data

/-- `Crc32(data)` (R232): it never reads the active pair. -/
def crc32 (c : Config) (data : List Byte) : Word32 := crcRun c.crc32Algo c.crc32Poly c.crc32Init data

/-- `Crc16Bytes` (R231). -/
def crc16Bytes (c : Config) (v : Word16) : List Byte :=
  let bytes := [v.extractLsb' 8 8, v.extractLsb' 0 8]
  if c.crc16Algo.msbFirst then bytes else bytes.reverse

/-- `Crc32Bytes` (R233). -/
def crc32Bytes (c : Config) (v : Word32) : List Byte :=
  let bytes := [v.extractLsb' 24 8, v.extractLsb' 16 8, v.extractLsb' 8 8, v.extractLsb' 0 8]
  if c.crc32Algo.msbFirst then bytes else bytes.reverse

/-- The FCS of length `k` over a range of bytes, with the active pair (R235, R236, 44_frame_transmit.md R295). -/
def fcsBytes (s : State) (k : Nat) (data : List Byte) : List Byte :=
  if k = 0 then []
  else if k = 4 then crc32Bytes s.cfg (crc32 s.cfg data)
  else crc16Bytes s.cfg (crc16 s.cfg s.activePoly s.activeSeed data)

/-- `CrcCheck(f)` (R236): the range is every byte but the first and the FCS. -/
def crcCheck (s : State) (f : List Byte) : Bool :=
  let k := fcsLen s (frameByte f 0)
  if k = 0 then true
  else if f.length < 1 + k then false
  else f.drop (f.length - k) == fcsBytes s k ((f.take (f.length - k)).drop 1)

end Sys2Proof.Machine
end

