-- ==== Sys2Proof/Machine/Gpio.lean ====
section
/-!
DEFINITION. The GPIO signal mux (45_gpio_mux.md R310 to R324). Role codes, thresholds and hysteresis are the spec's
decisions D36 to D42 (notes/assumptions/21.md).
-/

namespace Sys2Proof.Machine

/-- The roles of a configurable line (R312). -/
inductive GpioRole where
  | rxFifoThr | txFifoThr | txFifoThrPkt | pktSync | marcStatus1 | marcStatus0 | chipRdyn | unsupported
deriving DecidableEq, Repr

/-- `RoleOf(cfg)` (R312). -/
def roleOf (c : GpioRoleCodes) (code : BitVec 6) : GpioRole :=
  if code = c.rxFifoThr then .rxFifoThr
  else if code = c.txFifoThr then .txFifoThr
  else if code = c.txFifoThrPkt then .txFifoThrPkt
  else if code = c.pktSync then .pktSync
  else if code = c.marcStatus1 then .marcStatus1
  else if code = c.marcStatus0 then .marcStatus0
  else if code = c.chipRdyn then .chipRdyn
  else .unsupported

/-- The role of a line. -/
def lineRole (s : State) (i : Line) : GpioRole := roleOf s.cfg.gpioRoles (roleCode s i)

/-- `RxThr()` (R313). -/
def rxThr (s : State) : Bool := decide (s.rxFifo.length > (fifoThr s).toNat)

/-- The TX threshold count (R324). -/
def txThreshold (s : State) : Nat := 127 - (fifoThr s).toNat

/-- `TxThr()` (R314). -/
def txThr (s : State) : Bool := decide (s.txFifo.length ≥ txThreshold s)

/-- `UpdateTxFullLatch()` (R315). -/
def updateTxFullLatch (s : State) : State :=
  if s.txFifo.length = s.cfg.fifoCapacity then { s with txFullLatch := true }
  else if s.txFifo.length < txThreshold s then { s with txFullLatch := false }
  else s

/-- `Inv(i, v)` (R321). -/
def invLevel (s : State) (i : Line) (v : Bool) : Bool := if s.cfg.gpioInvHonoured && invBit s i then !v else v

/-- The level of one line, replaced. -/
def Gpio.set (g : Gpio) (i : Line) (v : Bool) : Gpio :=
  match i with
  | .line0 => { g with line0 := v }
  | .line1 => { g with line1 := v }
  | .line2 => { g with line2 := v }
  | .line3 => { g with line3 := v }

/-- The level of one line. -/
def Gpio.get (g : Gpio) : Line → Bool
  | .line0 => g.line0
  | .line1 => g.line1
  | .line2 => g.line2
  | .line3 => g.line3

/-- `gpio[i] <- Inv(i, v)`. -/
def State.driveLine (i : Line) (v : Bool) (s : State) : State := { s with gpio := s.gpio.set i (invLevel s i v) }

/-- The level a role asks for, none for an unsupported role (R313 to R320). -/
def roleLevel (s : State) : GpioRole → Option Bool
  | .rxFifoThr => some (rxThr s)
  | .txFifoThr => some (txThr s)
  | .txFifoThrPkt => some s.txFullLatch
  | .pktSync => some false
  | .marcStatus1 => some (decide (s.mode = .idle ∨ s.mode = .receiveMode))
  | .marcStatus0 => some (decide (s.mode = .idle ∨ s.mode = .transmitMode))
  | .chipRdyn => some (decide (s.mode = .off))
  | .unsupported => none

/-- One line of `Refresh` (R310): the blink of the sync role comes first (R316); an unsupported role keeps the level and
logs (R320). -/
def refreshLine (i : Line) (s : State) : State :=
  let t := if lineRole s i = .pktSync ∧ s.syncPulse > 0 then s.emit (.blink i) else s
  match roleLevel s (lineRole s i) with
  | some v => t.driveLine i v
  | none => t.log .unsupportedGpioRole

/-- The end of `Refresh`: the MISO line and the pulse (R310, R322). -/
def refreshMiso (s : State) : State := { s with gpio := { s.gpio with miso := !s.cs }, syncPulse := 0 }

/-- `Refresh()` (R310): the latch, lines 0 to 3 in order, line 4, and the pulse is consumed. -/
def refresh (s : State) : State :=
  refreshMiso
    (refreshLine .line3 (refreshLine .line2 (refreshLine .line1 (refreshLine .line0 (updateTxFullLatch s)))))

/-- `syncPulse <- syncPulse + 1; Refresh()` (43_frame_receive.md R275, 44_frame_transmit.md R297). -/
def pulseSync (s : State) : State := refresh { s with syncPulse := s.syncPulse + 1 }

end Sys2Proof.Machine
end

