-- ==== Sys2Proof/Machine/FrameReceive.lean ====
section
/-!
DEFINITION. The receive pipeline (43_frame_receive.md R250 to R276) and `SetMode` (10_state.md R25).
`ProcessFrame` runs only in ReceiveMode (R251), so each `SetMode` inside it is no entry into ReceiveMode and writes the
mode as such: DEDUCED from R25 and R251 (notes/assumptions/20.md); `setMode_of_receiveMode` (Laws/Frames.lean) says it.
-/

namespace Sys2Proof.Machine

/-- `Drop(code)` (R268). -/
def dropFrame (code : DiagCode) (s : State) : State :=
  let t := s.log code
  if termOnBadPacket t then t.writeMode .idle else t

/-- The arguments of LENGTH_LIMIT, read from the register bank (R256). -/
def lengthArgs (s : State) : LengthArgs := ⟨lengthConfig s, packetLength s, crcAutoflush s, appendStatus s⟩

/-- The formula of R256: the cap is `capFixed` under Fixed and `capVariable` otherwise, and none without CRC_AUTOFLUSH.
Integers, never wrapping. -/
def lengthFormula (r : LengthRule) (x : LengthArgs) : Int :=
  let l : Int := x.packetLength.toNat
  let cap : Int := if x.lengthConfig = 0 then r.capFixed else r.capVariable
  (if x.crcAutoflush then min l cap else l) - (if x.appendStatus then (r.statusMargin : Int) else 0)

/-- LENGTH_LIMIT at an argument: the listed value, or the formula's. -/
def lengthRuleLimit (r : LengthRule) (x : LengthArgs) : Int :=
  match r.listed.find? (fun e => e.1 == x) with
  | some e => e.2
  | none => lengthFormula r x

/-- `LengthLimit()` (R256). -/
def lengthLimit (s : State) : Int := lengthRuleLimit s.cfg.lengthRule (lengthArgs s)

/-- `LengthOk(n)` (R256). -/
def lengthOk (s : State) (n : Nat) : Bool := decide ((n : Int) ≤ lengthLimit s)

/-- Step 2: the code a frame of declared length n is dropped with, if it is (R255 to R260). -/
def lengthDrop (s : State) (n : Nat) : Option DiagCode :=
  if lengthConfig s = 2 then
    match s.cfg.infiniteLength with
    | .drop => some .lengthModeUnsupported
    | .noCheck => none
  else if lengthOk s n then none else some .badLength

/-- `AddressOk(policy, a, D)` (R262 to R265). -/
def addressOk (policy : BitVec 2) (a d : Byte) : Bool :=
  if policy = 0 then true
  else if policy = 1 then a == d
  else if policy = 2 then a == d || a == 0xFF
  else a == d || a == 0x00 || a == 0xFF

/-- Step 3: whether the address filter rejects a frame (R261). -/
def addressRejects (s : State) (f : List Byte) : Bool :=
  !gMode s && !addressOk (addrCheckCfg s) (addressByte s f) (deviceAddr s)

/-- The number of bytes stripped (R269). -/
def stripLength (s : State) (f : List Byte) : Nat := min (fcsLen s (frameByte f 0)) (f.length - 1)

/-- What is enqueued: the frame without its FCS, and the two status bytes if they are enabled (R269, R270). -/
def rxBody (s : State) (f : List Byte) : List Byte :=
  let body := f.take (f.length - stripLength s f)
  if appendStatus s then body ++ [s.rssiTop, crcLqiByte s.lastCrcOk s.lqi] else body

/-- `AckFrame(seq)` (R274). -/
def ackFrame (s : State) (seq : Byte) : List Byte :=
  let hdr := if gMode s then s.cfg.ack.gHeader else s.cfg.ack.legacyHeader
  let body := hdr ++ s.cfg.ack.frameControl ++ [seq]
  let fcs := if crcEnabled s then
      crc16Bytes s.cfg (crc16 s.cfg s.activePoly s.activeSeed (body.drop 1)) else []
  body ++ fcs

/-- The MPDU without its FCS, `f[h .. |f| - s)` (R273). -/
def mpdu (s : State) (f : List Byte) : List Byte := (f.take (f.length - stripLength s f)).drop (headerLength s)

/-- Step 8's condition (R273): acknowledgment asked for, neither Beacon nor ACK, RXOFF_MODE = 2 and
TERM_ON_BAD_PACKET_EN = 1. -/
def ackWanted (s : State) (f : List Byte) : Bool :=
  let m := mpdu s f
  decide (m.length ≥ 3) && rxoffMode s == 2 && termOnBadPacket s
    && macAckRequest m && macFrameType m != 0 && macFrameType m != 2

/-- Step 8 (R273): the ACK is emitted, no mode changes. -/
def maybeAck (f : List Byte) (s : State) : State :=
  if ackWanted s f then s.emit (.frameSent (ackFrame s (macSequence (mpdu s f)))) else s

/-- Steps 5 to 9 of an accepted frame (R269 to R275). -/
def acceptFrame (f : List Byte) (s : State) : State :=
  let t := enqueueAll .rx (rxBody s f) s
  pulseSync (maybeAck f (t.writeMode (offMode (rxoffMode t))))

/-- Step 4 (R266, R267), then the rest. -/
def checkCrcStep (f : List Byte) (s : State) : State :=
  let ok := crcCheck s f
  let t : State := { s with lastCrcOk := ok }
  if ok then acceptFrame f t
  else if crcAutoflush t then dropFrame .badCrc t
  else acceptFrame f (t.log .crcMismatchKept)

/-- `ProcessFrame(f)` (R251, R276): the draws, then each hard drop point in order. -/
def processFrame (f : List Byte) (s : State) : State :=
  let t := drawSignal s
  if f.length ≤ 2 then t.log .shortFrame
  else
    match lengthDrop t (declaredLength t f) with
    | some code => dropFrame code t
    | none => if addressRejects t f then dropFrame .badAddress t else checkCrcStep f t

/-- `SetMode(m)` (10_state.md R25): every entry into ReceiveMode processes a pending frame. -/
def setMode (m : ChipMode) (s : State) : State :=
  let t := s.writeMode m
  if m = .receiveMode ∧ s.mode ≠ .receiveMode then
    match s.pending with
    | some f => processFrame f { t with pending := none }
    | none => t
  else t

/-- `Receive(f)` without its Refresh (R250): held as pending, or processed. -/
def receiveFrame (f : List Byte) (s : State) : State :=
  if s.mode = .receiveMode then processFrame f s else { s with pending := some f }

end Sys2Proof.Machine
end

