-- ==== Sys2Proof/Machine/FrameTransmit.lean ====
section
/-!
DEFINITION. The transmit pipeline (44_frame_transmit.md R290 to R297). It is entered by the STX strobe alone.
-/

namespace Sys2Proof.Machine

/-- The PHY header popped from the TX FIFO (R291): its first byte, the bytes after it, and the state left. -/
def popHeader (s : State) : Byte × List Byte × State :=
  let (h0, t) := dequeue .tx s
  if gMode s then
    let (h1, u) := dequeue .tx t
    (h0, [h1], u)
  else (h0, [], t)

/-- The frame a transmit emits: header, payload and FCS over every byte but the first (R293 to R296). -/
def txFrame (s : State) (h0 : Byte) (rest : List Byte) : List Byte :=
  (h0 :: rest) ++ fcsBytes s (fcsLen s h0) rest

/-- The transmit of a popped header: payload, frame, TX-off transition, pulse (R293 to R297). -/
def sendFrame (h0 : Byte) (tail : List Byte) (s : State) : State :=
  let payload := s.txFifo
  let t := (clearFifo .tx s).emit (.frameSent (txFrame s h0 (tail ++ payload)))
  pulseSync (setMode (offMode (txoffMode t)) t)

/-- `RunTx()` (R290): a g-mode header with MS set aborts and clears the FIFO (R292). -/
def runTx (s : State) : State :=
  let (h0, tail, t) := popHeader s
  if gMode t && modeSwitchBit t h0 then clearFifo .tx (t.log .modeSwitchUnsupported)
  else sendFrame h0 tail t

end Sys2Proof.Machine
end

