-- ==== Sys2Proof/Machine/Bus.lean ====
section
/-!
DEFINITION. The bus access machine (40_bus_access.md R150 to R182): the frame of a transfer, the header phases, the operand
phases, chip select, and the strobe dispatcher (41_command_strobes.md R200). One definition per instruction stands in
Headers.lean, Strobes.lean, OperandBytes.lean and Events.lean, over these.
-/

namespace Sys2Proof.Machine

/-- `PreCheck()` (R150): both conditions are logged, and the byte is processed all the same. -/
def preCheck (s : State) : State :=
  let t := if s.cs then s else s.log .notSelected
  if s.mode = .off then t.log .accessWhileOff else t

/-- What every transfer starts with (R151). -/
def beginTransfer (s : State) : State := preCheck s.beginEvent

/-- What every transfer ends with (R151): the response is fixed, then the lines are refreshed. -/
def endTransfer (r : Byte) (s : State) : State := (refresh s).respond r

/-! ### The transition table -/

/-- The bus state after a header (R182). -/
def busAfterHeader (kind : TargetKind) (isRead : Bool) : BusState :=
  match kind with
  | .registers => if isRead then .readout else .waitingForData
  | .standardFifo => if isRead then .readout else .waitingForData
  | .extendedRegisters => .waitingForAddress
  | .directFifo => .waitingForAddress
  | .fecWorkspaceOrFreeArea => .waitingForAddress
  | .commandStrobe => .waitingForHeader

/-- The bus state after an address byte (R169, R182). -/
def busAfterAddress (isRead : Bool) : BusState := if isRead then .readout else .waitingForData

/-- The bus state after a data or read-out byte (R180, R182). -/
def busAfterPhase (bus : BusState) (isBurst : Bool) : BusState := if isBurst then bus else .waitingForHeader

/-- The whole table of R182. -/
def busNext (bus : BusState) (kind : TargetKind) (isRead isBurst : Bool) : BusState :=
  match bus with
  | .waitingForHeader => busAfterHeader kind isRead
  | .waitingForAddress => busAfterAddress isRead
  | .waitingForData => busAfterPhase .waitingForData isBurst
  | .readout => busAfterPhase .readout isBurst

/-! ### Headers -/

/-- A header that opens an access (R152 to R167): the status before, a fresh descriptor, and its first phase.
DESIGN CHOICE (notes/assumptions/33.md): R160 to R163 are "as rule R156", whose pseudocode writes 0x2F, and do not say what
address the descriptor of a 0x3E header holds until its address byte replaces it; here it is the header's own target, 0x3E,
as in every other header rule. No rule reads it before the address byte. -/
def accessHeader (t : Target) (isRead isBurst : Bool) (s : State) : State :=
  let u := beginTransfer s
  let kind := decodeTarget s.cfg.fecSelect t
  endTransfer (status u)
    (u.setBus (busAfterHeader kind isRead) (some ⟨t.setWidth 8, isRead, isBurst, kind⟩))

/-- The command of a strobe code: STROBE_MAP, with CALIBRATE_CODES deciding which codes calibrate among those that no
other command has (R123, R202, R204, D3, D4; notes/assumptions/12.md). -/
def strobeOf (c : Config) (t : Target) : StrobeKind :=
  match c.strobeMap.getD (t.toNat - 0x30) .unknown with
  | .calibrate => if t ∈ c.calibrateCodes then .calibrate else .unknown
  | .unknown => if t ∈ c.calibrateCodes then .calibrate else .unknown
  | k => k

/-- `ExecStrobe(T)` (R200). -/
def execStrobe (t : Target) (s : State) : State :=
  match strobeOf s.cfg t with
  | .reset => deviceReset true s
  | .calibrate => setMode .fastTxReady s
  | .enableRx => setMode .receiveMode s
  | .enableTx => runTx (setMode .transmitMode s)
  | .goIdle => setMode .idle s
  | .sleep => setMode .off s
  | .flushRx => clearFifo .rx s
  | .flushTx => clearFifo .tx s
  | .noOperation => s
  | .unknown => s.log .unknownStrobe

/-- A strobe header (R168): the status before, a descriptor that lives only inside the step, the command, and back to
WaitingForHeader whatever the command did. -/
def strobeHeader (t : Target) (rw b : Bool) (s : State) : State :=
  let u := beginTransfer s
  let v := execStrobe t (u.setBus u.bus (some ⟨t.setWidth 8, rw, b, .commandStrobe⟩))
  endTransfer (status u) (v.setBus .waitingForHeader none)

/-! ### Operand bytes -/

/-- The byte `DataWriteDirect` does not write (R174): refused, or under Peek only discarded. -/
def dataWriteDirect (s : State) : State :=
  match s.cfg.directPolicy with
  | .refuse => (s.refuse .directAccessUnmodelled).log .unmodelledAccess
  | .peek => s.log .unmodelledAccess

/-- The write of a data byte (R170 to R174); none for a kind that has no data phase (R126). -/
def dataWrite (d : AccessDescriptor) (b : Byte) (s : State) : Option State :=
  match d.kind with
  | .registers => some (regWrite .std d.addr b s)
  | .extendedRegisters => some (regWrite .ext d.addr b s)
  | .standardFifo => some (enqueue .tx b s)
  | .directFifo => some (dataWriteDirect s)
  | .fecWorkspaceOrFreeArea => some (dataWriteDirect s)
  | .commandStrobe => none

/-- `ReadoutDirect()` (R179): refused with a free byte, or under Peek the FIFO byte its address names. -/
def readoutDirect (d : AccessDescriptor) (s : State) : Byte × State :=
  match s.cfg.directPolicy with
  | .refuse => drawByte ((s.refuse .directAccessUnmodelled).log .unmodelledAccess)
  | .peek =>
    (if d.addr.toNat < 0x80 then peek .tx d.addr.toNat s else peek .rx (d.addr.toNat - 0x80) s, s)

/-- The data of a read-out byte (R175 to R179); none for a kind that has no read-out phase (R126). -/
def readoutData (d : AccessDescriptor) (s : State) : Option (Byte × State) :=
  match d.kind with
  | .registers => some (regRead .std d.addr s)
  | .extendedRegisters => some (regRead .ext d.addr s)
  | .standardFifo => some (dequeue .rx s)
  | .directFifo => some (readoutDirect d s)
  | .fecWorkspaceOrFreeArea => some (readoutDirect d s)
  | .commandStrobe => none

/-- The descriptor of the next byte of a burst (R180): the same, but under BURST_INCREMENT. -/
def nextDesc (c : Config) (d : AccessDescriptor) : AccessDescriptor :=
  if c.burstIncrement ∧ (d.kind = .registers ∨ d.kind = .extendedRegisters) then { d with addr := d.addr + 1 } else d

/-- `PhaseEnd()` (R180), for a byte of the access `d`. -/
def phaseEnd (d : AccessDescriptor) (s : State) : State :=
  if d.isBurst then s.setBus s.bus (some (nextDesc s.cfg d)) else s.setBus .waitingForHeader none

/-- `AddressByte(b)` (R169). -/
def addressPhase (x : Byte) (s : State) : Host.Outcome State Fault Refusal :=
  match s.desc with
  | none => .fault .noAccess
  | some d =>
    .next (endTransfer 0x00 ((beginTransfer s).setBus (busAfterAddress d.isRead) (some { d with addr := x })))

/-- `DataByte(b)` (R170): the status is sampled before the write. -/
def dataPhase (b : Byte) (s : State) : Host.Outcome State Fault Refusal :=
  match s.desc with
  | none => .fault .noAccess
  | some d =>
    let u := beginTransfer s
    match dataWrite d b u with
    | none => .fault .noAccess
    | some v => .next (endTransfer (status u) (phaseEnd d v))

/-- `ReadoutByte(b)` (R175): the host's byte is ignored. -/
def readoutPhase (s : State) : Host.Outcome State Fault Refusal :=
  match s.desc with
  | none => .fault .noAccess
  | some d =>
    match readoutData d (beginTransfer s) with
    | none => .fault .noAccess
    | some (v, t) => .next (endTransfer v (phaseEnd d t))

/-! ### Chip select -/

/-- What deassertion does before the level is written (R181): the forced Idle, and the end of any access. -/
def deassert (s : State) : State :=
  let t := if s.mode = .off then setMode .idle s else s
  if t.cfg.csDeassertResetsBus then t.setBus .waitingForHeader none else t

/-- `SetCS(level)` (R181). -/
def setChipSelect (level : Bool) (s : State) : State :=
  let t := if level then s.beginEvent else deassert s.beginEvent
  refresh { t with cs := level }

end Sys2Proof.Machine
end

