-- ==== Sys2Proof/Machine/Events.lean ====
section
/-!
DEFINITION. The meanings of the events that are no bytes: chip select (40_bus_access.md R181), a frame from the medium
(43_frame_receive.md R250) and power-on reset (70_reset_and_hazards.md R370).
-/

namespace Sys2Proof.Machine

/-- SET_CS: the chip-select level changes (R181). -/
def execSetCs (level : Bool) (s : State) : Host.Outcome State Fault Refusal :=
  .next (setChipSelect level s)

/-- RECEIVE: the medium delivers a frame (R250). -/
def execReceive (f : List Byte) (s : State) : Host.Outcome State Fault Refusal :=
  .next (refresh (receiveFrame f s.beginEvent))

/-- POWER_ON_RESET: the device is constructed anew (R370, R372). It emits nothing. The configuration, the events still to
come and the count of draws are not the device's and stay (notes/assumptions/22.md). -/
def execPowerOnReset (s : State) : Host.Outcome State Fault Refusal :=
  .next (deviceReset false s.beginEvent)

end Sys2Proof.Machine
end

