-- ==== Sys2Proof/Machine/Headers.lean ====
section
/-!
DEFINITION. The meanings of the header bytes that open an access: register (40_bus_access.md R152 to R155), extended
register (R156 to R159), direct FIFO (R160 to R163) and standard FIFO headers (R164 to R167).
-/

namespace Sys2Proof.Machine

/-- WR a: a single register write header (R152). -/
def execWr (a : Target) (s : State) : Host.Outcome State Fault Refusal :=
  .next (accessHeader a false false s)

/-- RD a: a single register read header (R153). -/
def execRd (a : Target) (s : State) : Host.Outcome State Fault Refusal :=
  .next (accessHeader a true false s)

/-- WRB a: a burst register write header (R154). -/
def execWrb (a : Target) (s : State) : Host.Outcome State Fault Refusal :=
  .next (accessHeader a false true s)

/-- RDB a: a burst register read header (R155). -/
def execRdb (a : Target) (s : State) : Host.Outcome State Fault Refusal :=
  .next (accessHeader a true true s)

/-- EWR: a single extended register write header (R156). -/
def execEwr (s : State) : Host.Outcome State Fault Refusal :=
  .next (accessHeader 0x2F false false s)

/-- ERD: a single extended register read header (R157). -/
def execErd (s : State) : Host.Outcome State Fault Refusal :=
  .next (accessHeader 0x2F true false s)

/-- EWRB: a burst extended register write header (R158). -/
def execEwrb (s : State) : Host.Outcome State Fault Refusal :=
  .next (accessHeader 0x2F false true s)

/-- ERDB: a burst extended register read header (R159). -/
def execErdb (s : State) : Host.Outcome State Fault Refusal :=
  .next (accessHeader 0x2F true true s)

/-- DWR: a single direct-FIFO write header (R160). With FEC_SELECT the kind is FECWorkspaceOrFreeArea. -/
def execDwr (s : State) : Host.Outcome State Fault Refusal :=
  .next (accessHeader 0x3E false false s)

/-- DRD: a single direct-FIFO read header (R161). With FEC_SELECT the kind is FECWorkspaceOrFreeArea. -/
def execDrd (s : State) : Host.Outcome State Fault Refusal :=
  .next (accessHeader 0x3E true false s)

/-- DWRB: a burst direct-FIFO write header (R162). With FEC_SELECT the kind is FECWorkspaceOrFreeArea. -/
def execDwrb (s : State) : Host.Outcome State Fault Refusal :=
  .next (accessHeader 0x3E false true s)

/-- DRDB: a burst direct-FIFO read header (R163). With FEC_SELECT the kind is FECWorkspaceOrFreeArea. -/
def execDrdb (s : State) : Host.Outcome State Fault Refusal :=
  .next (accessHeader 0x3E true true s)

/-- FWR: a single standard-FIFO write header (R164). -/
def execFwr (s : State) : Host.Outcome State Fault Refusal :=
  .next (accessHeader 0x3F false false s)

/-- FRD: a single standard-FIFO read header (R165). -/
def execFrd (s : State) : Host.Outcome State Fault Refusal :=
  .next (accessHeader 0x3F true false s)

/-- FWRB: a burst standard-FIFO write header (R166). -/
def execFwrb (s : State) : Host.Outcome State Fault Refusal :=
  .next (accessHeader 0x3F false true s)

/-- FRDB: a burst standard-FIFO read header (R167). -/
def execFrdb (s : State) : Host.Outcome State Fault Refusal :=
  .next (accessHeader 0x3F true true s)

end Sys2Proof.Machine
end

