-- ==== Sys2Proof/Machine/OperandBytes.lean ====
section
/-!
DEFINITION. The meanings of the operand bytes (40_bus_access.md R169, R170, R175). Which of them a byte is, the bus state
says (30_encoding.md R120): `step` decodes by it, and a meaning does not check it again (notes/assumptions/23.md).
-/

namespace Sys2Proof.Machine

/-- ADDR_BYTE: the byte after an extended, direct or FEC header (R169). -/
def execAddrByte (x : Byte) (s : State) : Host.Outcome State Fault Refusal :=
  addressPhase x s

/-- DATA_BYTE: the value written to the descriptor's target (R170 to R174). -/
def execDataByte (d : Byte) (s : State) : Host.Outcome State Fault Refusal :=
  dataPhase d s

/-- READOUT_BYTE: the response carries the target's data, the host's byte is ignored (R175 to R179, D65). -/
def execReadoutByte (_x : Byte) (s : State) : Host.Outcome State Fault Refusal :=
  readoutPhase s

end Sys2Proof.Machine
end

