-- ==== Sys2Proof/Machine/Strobes.lean ====
section
/-!
DEFINITION. The meanings of the 14 command strobes (41_command_strobes.md R201 to R215). Each is its code under STROBE_MAP;
the effect named is that of the default map. RW and B are decoded and ignored (30_encoding.md R123).
-/

namespace Sys2Proof.Machine

/-- SRES, code 0x30: Reset, keeping cs and the sticky mark (R201). -/
def execSres (rw b : Bool) (s : State) : Host.Outcome State Fault Refusal :=
  .next (strobeHeader 0x30 rw b s)

/-- SFSTXON, code 0x31: Calibrate, to FastTxReady (R202). -/
def execSfstxon (rw b : Bool) (s : State) : Host.Outcome State Fault Refusal :=
  .next (strobeHeader 0x31 rw b s)

/-- SXOFF, code 0x32: unknown, logged and ignored (R203). -/
def execSxoff (rw b : Bool) (s : State) : Host.Outcome State Fault Refusal :=
  .next (strobeHeader 0x32 rw b s)

/-- SCAL, code 0x33: unknown, unless CALIBRATE_CODES holds 0x33 (R204). -/
def execScal (rw b : Bool) (s : State) : Host.Outcome State Fault Refusal :=
  .next (strobeHeader 0x33 rw b s)

/-- SRX, code 0x34: EnableRx, processing a pending frame on entry (R205). -/
def execSrx (rw b : Bool) (s : State) : Host.Outcome State Fault Refusal :=
  .next (strobeHeader 0x34 rw b s)

/-- STX, code 0x35: EnableTx, running the transmit pipeline in every mode (R206). -/
def execStx (rw b : Bool) (s : State) : Host.Outcome State Fault Refusal :=
  .next (strobeHeader 0x35 rw b s)

/-- SIDLE, code 0x36: Idle, from every mode (R207). -/
def execSidle (rw b : Bool) (s : State) : Host.Outcome State Fault Refusal :=
  .next (strobeHeader 0x36 rw b s)

/-- SAFC, code 0x37: unknown, logged and ignored (R208). -/
def execSafc (rw b : Bool) (s : State) : Host.Outcome State Fault Refusal :=
  .next (strobeHeader 0x37 rw b s)

/-- SWOR, code 0x38: unknown, logged and ignored (R209). -/
def execSwor (rw b : Bool) (s : State) : Host.Outcome State Fault Refusal :=
  .next (strobeHeader 0x38 rw b s)

/-- SPWD, code 0x39: Sleep, to Off (R210). -/
def execSpwd (rw b : Bool) (s : State) : Host.Outcome State Fault Refusal :=
  .next (strobeHeader 0x39 rw b s)

/-- SFRX, code 0x3A: FlushRX (R211). -/
def execSfrx (rw b : Bool) (s : State) : Host.Outcome State Fault Refusal :=
  .next (strobeHeader 0x3A rw b s)

/-- SFTX, code 0x3B: FlushTX (R212). -/
def execSftx (rw b : Bool) (s : State) : Host.Outcome State Fault Refusal :=
  .next (strobeHeader 0x3B rw b s)

/-- SWORRST, code 0x3C: unknown, logged and ignored (R213). -/
def execSworrst (rw b : Bool) (s : State) : Host.Outcome State Fault Refusal :=
  .next (strobeHeader 0x3C rw b s)

/-- SNOP, code 0x3D: NoOperation (R214). -/
def execSnop (rw b : Bool) (s : State) : Host.Outcome State Fault Refusal :=
  .next (strobeHeader 0x3D rw b s)

end Sys2Proof.Machine
end

