-- ==== Sys2Proof/Machine/Dispatch.lean ====
section
/-!
DEFINITION. The meaning of every instruction: one arm per constructor, each one direct call.
-/

namespace Sys2Proof.Machine

def exec (i : Instr) (s : State) : Host.Outcome State Fault Refusal :=
  match i with
  | .wr a => Sys2Proof.Machine.execWr a s
  | .rd a => Sys2Proof.Machine.execRd a s
  | .wrb a => Sys2Proof.Machine.execWrb a s
  | .rdb a => Sys2Proof.Machine.execRdb a s
  | .ewr => Sys2Proof.Machine.execEwr s
  | .erd => Sys2Proof.Machine.execErd s
  | .ewrb => Sys2Proof.Machine.execEwrb s
  | .erdb => Sys2Proof.Machine.execErdb s
  | .dwr => Sys2Proof.Machine.execDwr s
  | .drd => Sys2Proof.Machine.execDrd s
  | .dwrb => Sys2Proof.Machine.execDwrb s
  | .drdb => Sys2Proof.Machine.execDrdb s
  | .fwr => Sys2Proof.Machine.execFwr s
  | .frd => Sys2Proof.Machine.execFrd s
  | .fwrb => Sys2Proof.Machine.execFwrb s
  | .frdb => Sys2Proof.Machine.execFrdb s
  | .sres rw b => Sys2Proof.Machine.execSres rw b s
  | .sfstxon rw b => Sys2Proof.Machine.execSfstxon rw b s
  | .sxoff rw b => Sys2Proof.Machine.execSxoff rw b s
  | .scal rw b => Sys2Proof.Machine.execScal rw b s
  | .srx rw b => Sys2Proof.Machine.execSrx rw b s
  | .stx rw b => Sys2Proof.Machine.execStx rw b s
  | .sidle rw b => Sys2Proof.Machine.execSidle rw b s
  | .safc rw b => Sys2Proof.Machine.execSafc rw b s
  | .swor rw b => Sys2Proof.Machine.execSwor rw b s
  | .spwd rw b => Sys2Proof.Machine.execSpwd rw b s
  | .sfrx rw b => Sys2Proof.Machine.execSfrx rw b s
  | .sftx rw b => Sys2Proof.Machine.execSftx rw b s
  | .sworrst rw b => Sys2Proof.Machine.execSworrst rw b s
  | .snop rw b => Sys2Proof.Machine.execSnop rw b s
  | .addrByte x => Sys2Proof.Machine.execAddrByte x s
  | .dataByte d => Sys2Proof.Machine.execDataByte d s
  | .readoutByte x => Sys2Proof.Machine.execReadoutByte x s
  | .setCs level => Sys2Proof.Machine.execSetCs level s
  | .receive f => Sys2Proof.Machine.execReceive f s
  | .powerOnReset => Sys2Proof.Machine.execPowerOnReset s

end Sys2Proof.Machine
end

