-- ==== Sys2Proof/Machine/Step.lean ====
section
/-!
DEFINITION. One step: the first event still to come, decoded in the bus state it arrives in, is run to completion
(00_scope.md R8, 20_memory.md R96). The device has no step of its own: with no event to come, nothing happens
(notes/assumptions/2.md).
-/

namespace Sys2Proof.Machine

/-- One step of the machine. -/
def step (s : State) : Host.Outcome State Fault Refusal :=
  match s.input with
  | [] => .next s
  | e :: rest => exec (decodeEvent s.cfg.header s.bus e) { s with input := rest }

/-- The state whose next step runs the table word `w`: its byte is shifted in first, and the bus waits for a header, as
after reset. -/
def State.withFetchWord (s : State) (_nbits w : Nat) : State :=
  { s with bus := .waitingForHeader, desc := none, input := .transfer (BitVec.ofNat 8 w) :: s.input }

end Sys2Proof.Machine
end

