-- ==== Sys2Proof/Safety.lean ====
section
/-!
DEFINITION. What a good state is, and what a safe run is. `State.Inv` collects what the spec says holds between events;
`Safe` says that a run, whatever events come, never stops (60_exceptions.md R340).
-/

namespace Sys2Proof.Machine

/-- The key of a cell that REG_MAP declares as stored (10_state.md R27). -/
def StoredKey (c : Config) (k : Nat) : Prop := ∃ sp a, cellKey sp a = k ∧ cellKind c sp a = .stored

/-- A kind whose header is followed by an address byte (30_encoding.md R124). -/
def hasAddressPhase : TargetKind → Bool
  | .registers => false
  | .extendedRegisters => true
  | .standardFifo => false
  | .directFifo => true
  | .fecWorkspaceOrFreeArea => true
  | .commandStrobe => false

/-- The states that the device is in between events. -/
structure State.Inv (s : State) : Prop where
  /-- the register bank keeps its canonical form -/
  bankCanonical : Memory.wf s.cfg s.bank = true
  /-- only stored cells hold a byte (R27) -/
  bankDeclared : ∀ e ∈ s.bank, StoredKey s.cfg e.1
  /-- FIFO_CAPACITY, fixed for the machine, is not 0 (R7 has 128; notes/assumptions/28.md) -/
  capacityPositive : 0 < s.cfg.fifoCapacity
  /-- `|q| <= FIFO_CAPACITY` (R45) -/
  rxFits : s.rxFifo.length ≤ s.cfg.fifoCapacity
  /-- `|q| <= FIFO_CAPACITY` (R45) -/
  txFits : s.txFifo.length ≤ s.cfg.fifoCapacity
  /-- no pulse is left between events (R46) -/
  noPulse : s.syncPulse = 0
  /-- the descriptor is dead exactly in WaitingForHeader (R23) -/
  descDead : s.bus = .waitingForHeader ↔ s.desc = none
  /-- no access is of kind CommandStrobe (R168) -/
  descKind : ∀ d, s.desc = some d → d.kind ≠ .commandStrobe
  /-- an address is awaited only for a kind that has one (R182) -/
  addressPhase : ∀ d, s.desc = some d → s.bus = .waitingForAddress → hasAddressPhase d.kind = true
  /-- data is awaited only by a write (R182) -/
  dataPhase : ∀ d, s.desc = some d → s.bus = .waitingForData → d.isRead = false
  /-- read-out is only by a read (R182) -/
  readoutPhase : ∀ d, s.desc = some d → s.bus = .readout → d.isRead = true
  /-- the MISO line is not cs (45_gpio_mux.md R322) -/
  misoLevel : s.gpio.miso = !s.cs
  /-- Calibrate, Settling, RxFIFOError and TxFIFOError are never entered (R24) -/
  enteredMode : s.mode = .off ∨ s.mode = .idle ∨ s.mode = .receiveMode ∨ s.mode = .transmitMode ∨ s.mode = .fastTxReady
  /-- no frame is pending in ReceiveMode (43_frame_receive.md R272) -/
  pendingHeld : s.mode = .receiveMode → s.pending = none
  /-- a full TX FIFO has set the latch (45_gpio_mux.md R315) -/
  latchSet : s.txFifo.length = s.cfg.fifoCapacity → s.txFullLatch = true
  /-- a TX FIFO below the threshold has cleared the latch (R315) -/
  latchClear : s.txFifo.length ≠ s.cfg.fifoCapacity → s.txFifo.length < txThreshold s → s.txFullLatch = false
  /-- the mark and its reason go together (R44, R358) -/
  markReason : s.refused = s.refusedReason.isSome
  /-- a non-zero CRC_CFG has selected its pair (20_memory.md R84, R100) -/
  activePair : ∀ p, crcPairOf s.cfg (crcCfg s) = some p → s.activePoly = p.poly ∧ s.activeSeed = p.seed

/-- A safe run: no number of steps stops. -/
def Safe (s : State) : Prop := ∀ n, ∃ t, Host.Core.run Sys2Proof.core n s = .next t

end Sys2Proof.Machine
end

