-- ==== Sys2Proof/Certificates/Slice0/Obligations.lean ====
section
/-!
DEFINITION. The statements for the provers. `Sys2Proof.Spec` holds the words they share: what a Refresh leaves, what a
completed event leaves, and the conditions of the receive pipeline, written from the rules.

Every statement about an instruction is an equation of its whole next state: a field it does not name is unchanged.
The response `resp` and the trace `out` are the model's own fields for the result of an event (notes/assumptions/3.md).
Wherever a statement rests on a clause that the spec marks as its own decision, its basis is derived. The decisions that
all of them share: the header layout D1, D2 and the codes D3 to D5 (notes/assumptions/6.md, 28.md), what a Refresh leaves
D36 to D42 (21.md), the diagnostic codes D46 (24.md), the phase after a burst byte D8 (18.md), a discarded or unbacked
access D12 (11.md).
-/

namespace Sys2Proof.Spec

open Sys2Proof.Machine

/-- The logs a byte starts with (40_bus_access.md R150, 60_exceptions.md R342). -/
def preLogs (s : State) : List OutEvent :=
  (if s.cs then [] else [.log .notSelected]) ++ (if s.mode = .off then [.log .accessWhileOff] else [])

/-- The trace of one Refresh with `pulses` sync pulses to consume (45_gpio_mux.md R310, R316, R320). -/
def lineTrace (s : State) (pulses : Nat) : List OutEvent :=
  [Line.line0, .line1, .line2, .line3].flatMap fun i =>
    if lineRole s i = .unsupported then [.log .unsupportedGpioRole]
    else if lineRole s i = .pktSync ∧ pulses > 0 then [.blink i]
    else []

/-- What Refresh leaves of the levels and the latch, where it started from those of `u` (R310, R315, R320, R322). -/
def RefreshedFrom (u t : State) : Prop :=
  t.gpio.miso = !t.cs ∧
  (∀ i, t.gpio.get i =
    match roleLevel t (lineRole t i) with
    | some v => invLevel t i v
    | none => u.gpio.get i) ∧
  t.txFullLatch =
    (if t.txFifo.length = t.cfg.fifoCapacity then true
     else if t.txFifo.length < 127 - (fifoThr t).toNat then false
     else u.txFullLatch)

/-- `exec i s` answers a next state, and it is `u` refreshed: the levels and the latch by `RefreshedFrom`, no pulse left,
the response `r`, and the trace `trace` followed by that of the last Refresh, which consumed `pulses` pulses. -/
def Completes (i : Instr) (s u : State) (r : Option Byte) (trace : List OutEvent) (pulses : Nat) : Prop :=
  ∃ t, exec i s = .next t ∧ RefreshedFrom u t ∧
    t = { u with
      gpio := t.gpio, txFullLatch := t.txFullLatch, syncPulse := 0, resp := r, out := trace ++ lineTrace u pulses }

/-- `s` with an access open, its next byte in bus state `bus` (R152 to R167). -/
def opened (s : State) (bus : BusState) (addr : Byte) (isRead isBurst : Bool) (kind : TargetKind) : State :=
  { s with bus := bus, desc := some ⟨addr, isRead, isBurst, kind⟩ }

/-- `s` after a data or read-out byte of the access `d` (R180). -/
def phased (s : State) (d : AccessDescriptor) : State :=
  if d.isBurst then
    { s with desc := some { d with
        addr := if s.cfg.burstIncrement = true ∧ (d.kind = .registers ∨ d.kind = .extendedRegisters)
          then d.addr + 1 else d.addr } }
  else { s with bus := .waitingForHeader, desc := none }

/-- `s` with no access in progress. -/
def ended (s : State) : State := { s with bus := .waitingForHeader, desc := none }

/-- The register space an access of this kind reaches (R171, R172). -/
def spaceOf : TargetKind → Option Space
  | .registers => some .std
  | .extendedRegisters => some .ext
  | _ => none

/-- A field lies in the cell at `a` of `sp`. -/
abbrev inCell (p : FieldPos) (sp : Space) (a : Byte) : Prop := p.space = sp ∧ p.addr = a

/-- A field's bits in its cell's byte: its value at bit `lo`, cut to its width. -/
def bitsAt {w : Nat} (p : FieldPos) (v : BitVec w) : Byte := ((v.setWidth p.width).setWidth 8) <<< p.lo

/-- The byte of a computed cell: each computed field that lies there, in its bits (10_state.md R39 to R41). -/
def computedByte (s : State) (sp : Space) (a : Byte) : Byte :=
  let r := s.cfg.regMap
  (if inCell r.rssi1 sp a then bitsAt r.rssi1 s.rssiTop else 0) |||
  (if inCell r.pktCrcOk sp a then bitsAt r.pktCrcOk (BitVec.ofBool s.lastCrcOk) else 0) |||
  (if inCell r.lqiEst sp a then bitsAt r.lqiEst s.lqi else 0) |||
  (if inCell r.partNumber sp a then bitsAt r.partNumber s.cfg.partNumber else 0) |||
  (if inCell r.numTxBytes sp a then bitsAt r.numTxBytes (BitVec.ofNat 8 s.txFifo.length) else 0) |||
  (if inCell r.numRxBytes sp a then bitsAt r.numRxBytes (BitVec.ofNat 8 s.rxFifo.length) else 0)

/-- The value CRC_CFG takes when its cell is written with `b`. -/
def crcCfgOf (c : Config) (b : Byte) : BitVec 2 :=
  (b.extractLsb' c.regMap.crcCfg.lo c.regMap.crcCfg.width).setWidth 2

/-- An access of one of the two kinds whose data phase the source does not describe (R174, R179). -/
def isDirect (k : TargetKind) : Prop := k = .directFifo ∨ k = .fecWorkspaceOrFreeArea

/-- `i` is the header of some strobe code. -/
def IsStrobe (i : Instr) : Prop := ∃ t rw b, decodeStrobe t rw b = some i

/-- `i` is the header of a strobe code that STROBE_MAP maps to Reset. -/
def IsReset (c : Config) (i : Instr) : Prop := ∃ t rw b, decodeStrobe t rw b = some i ∧ strobeOf c t = .reset

/-- `s` with the two draws of a processed frame taken (43_frame_receive.md R251). -/
def drawn (s : State) : State :=
  { s with rssiTop := Config.freeRssi s.draws, lqi := Config.freeLqi s.draws, draws := s.draws + 1 }

/-- A frame passes step 2 (R255 to R260). -/
def PassesLength (s : State) (f : List Byte) : Prop :=
  (lengthConfig s = 2 ∧ s.cfg.infiniteLength = .noCheck) ∨
  (lengthConfig s ≠ 2 ∧ (declaredLength s f : Int) ≤ lengthLimit s)

/-- A frame passes step 3 (R261). -/
def PassesAddress (s : State) (f : List Byte) : Prop :=
  gMode s = true ∨ addressOk (addrCheckCfg s) (addressByte s f) (deviceAddr s) = true

/-- A frame is accepted (R252, R276). -/
def Accepted (s : State) (f : List Byte) : Prop :=
  2 < f.length ∧ PassesLength s f ∧ PassesAddress s f ∧ (crcCheck s f = true ∨ crcAutoflush s = false)

/-- The frame without its FCS (R269). -/
def stripped (s : State) (f : List Byte) : List Byte :=
  f.take (f.length - min (fcsLen s (frameByte f 0)) (f.length - 1))

/-- What an accepted frame offers to the RX FIFO (R269, R270). -/
def offered (s : State) (f : List Byte) : List Byte :=
  stripped s f ++
    (if appendStatus s then
      [Config.freeRssi s.draws, BitVec.ofBool (crcCheck s f) ++ Config.freeLqi s.draws] else [])

/-- An accepted frame is acknowledged: at least three bytes of MAC header, RXOFF_MODE = 2, TERM_ON_BAD_PACKET_EN = 1,
acknowledge request set, and neither a Beacon nor an ACK (R273). -/
def AckAsked (s : State) (f : List Byte) : Prop :=
  let m := (stripped s f).drop (headerLength s)
  3 ≤ m.length ∧ rxoffMode s = 2 ∧ termOnBadPacket s = true ∧ (frameByte m 0).getLsbD 5 = true ∧
    (frameByte m 0).extractLsb' 0 3 ≠ 0 ∧ (frameByte m 0).extractLsb' 0 3 ≠ 2

/-- What a transmit sends after the first byte: the rest of the header, 0x00 where it is missing, and the payload
(44_frame_transmit.md R291, R294). -/
def txRest (s : State) : List Byte :=
  if gMode s then s.txFifo.tail.headD 0x00 :: s.txFifo.tail.tail else s.txFifo.tail

/-- The frame a transmit sends (R296). -/
def txSent (s : State) : List Byte :=
  let h0 := s.txFifo.headD 0x00
  (h0 :: txRest s) ++ fcsBytes s (fcsLen s h0) (txRest s)

/-- The underflow logs of the header pop (R291). -/
def txUnderflows (s : State) : List OutEvent :=
  List.replicate (headerLength s - s.txFifo.length) (.log .txUnderflow)

/-- A transmit aborts on the mode-switch bit (R292). -/
def TxAborts (s : State) : Prop := gMode s = true ∧ (s.txFifo.headD 0x00).getLsbD s.cfg.phr.msBit = true

/-- The frames of a trace. -/
def framesOf (o : List OutEvent) : List (List Byte) :=
  o.filterMap fun e => match e with
    | .frameSent f => some f
    | _ => none

end Sys2Proof.Spec

open Sys2Proof Sys2Proof.Machine Sys2Proof.Spec

/-! ### Encoding and stepping -/

/-- Words written out from the encoding column decode to their rows (30_encoding.md R121 to R125). -/
def Obligations.TableWordsDecode : Prop :=
  decodeTableWord 8 0b00101110 = some (.wr 0x2E) ∧
  decodeTableWord 8 0b10000101 = some (.rd 0x05) ∧
  decodeTableWord 8 0b01000000 = some (.wrb 0x00) ∧
  decodeTableWord 8 0b11011110 = some (.rdb 0x1E) ∧
  decodeTableWord 8 0b10101111 = some .erd ∧
  decodeTableWord 8 0b01111110 = some .dwrb ∧
  decodeTableWord 8 0b11111111 = some .frdb ∧
  decodeTableWord 8 0b10111000 = some (.swor true false) ∧
  decode ⟨7, 6⟩ .waitingForAddress [0x8F, 0x00] = .ok (.addrByte 0x8F, [0x00]) ∧
  decode ⟨7, 6⟩ .waitingForData [0x30] = .ok (.dataByte 0x30, []) ∧
  decode ⟨7, 6⟩ .readout [0x36] = .ok (.readoutByte 0x36, [])

/-- Every well-formed instruction, sent as its event and read in its bus state, is read back as itself with every operand,
and a byte instruction leaves the bytes after it, whichever of the two top bits HDR_RW_BIT names (R120 to R125, R131; the
default is decision D1, notes/assumptions/6.md, 28.md). -/
def Obligations.DecodeInvertsEncode : Prop :=
  ∀ (l : HeaderBits) (i : Instr), l = ⟨7, 6⟩ ∨ l = ⟨6, 7⟩ → i.wf = true →
    decodeEvent l (readIn i) (encodeEvent l i) = i ∧
    ∀ rest, i.isEvent = false → decode l (readIn i) (encode l i ++ rest) = .ok (i, rest)

/-- Every byte decodes in every bus state, to a well-formed instruction that is read there, wherever the two header bits lie;
where they are the two top bits it is encoded as that byte (R120, R127). -/
def Obligations.EveryByteDecodes : Prop :=
  ∀ (l : HeaderBits) (bus : BusState) (b : Byte),
    (decodeByte l bus b).wf = true ∧ readIn (decodeByte l bus b) = bus ∧
    (l = ⟨7, 6⟩ ∨ l = ⟨6, 7⟩ → encode l (decodeByte l bus b) = [b])

/-- A step takes the first event to come and runs the instruction it decodes to in the present bus state; with no event to
come nothing happens. How events wait to be taken is the model's choice (notes/assumptions/2.md). -/
def Obligations.StepRunsDecodedInstruction : Prop :=
  (∀ (s : State) (b : Byte) (rest : List Event) (i : Instr), s.input = .transfer b :: rest →
    decode s.cfg.header s.bus [b] = .ok (i, []) → i.wf = true ∧ step s = exec i { s with input := rest }) ∧
  (∀ (s : State) (e : Event) (rest : List Event), s.input = e :: rest →
    step s = exec (decodeEvent s.cfg.header s.bus e) { s with input := rest }) ∧
  (∀ s : State, s.input = [] → step s = .next s)

/-! ### The invariant -/

/-- The state after reset is a good state. -/
def Obligations.ResetIsGood : Prop := State.reset.Inv

/-- Every step keeps the invariant: the bank canonical and declared, the FIFOs within a FIFO_CAPACITY that is not 0
(notes/assumptions/28.md), the descriptor dead
exactly between accesses and of the kind its phase needs, the MISO line not cs, only the five entered modes, no frame
pending in ReceiveMode, the latch by its hysteresis, the pair by CRC_CFG. -/
def Obligations.StepKeepsInvariant : Prop :=
  ∀ s t : State, s.Inv → step s = .next t → t.Inv

/-- From a good state no run stops, whatever events come and in whatever order (60_exceptions.md R340). -/
def Obligations.NoRunStops : Prop := ∀ s : State, s.Inv → Safe s

/-! ### Headers -/

/-- WR, RD, WRB, RDB: the status before, the fresh descriptor, the first phase, and nothing else (R152 to R155). -/
def Obligations.RegisterHeadersOpenAccess : Prop :=
  ∀ (s : State) (a : Target), stdAddressOk a = true →
    Completes (.wr a) s (opened s .waitingForData (a.setWidth 8) false false .registers)
      (some (status s)) (preLogs s) s.syncPulse ∧
    Completes (.rd a) s (opened s .readout (a.setWidth 8) true false .registers)
      (some (status s)) (preLogs s) s.syncPulse ∧
    Completes (.wrb a) s (opened s .waitingForData (a.setWidth 8) false true .registers)
      (some (status s)) (preLogs s) s.syncPulse ∧
    Completes (.rdb a) s (opened s .readout (a.setWidth 8) true true .registers)
      (some (status s)) (preLogs s) s.syncPulse

/-- EWR, ERD, EWRB, ERDB wait for an address byte (R156 to R159). -/
def Obligations.ExtendedHeadersAwaitAddress : Prop :=
  ∀ s : State,
    Completes .ewr s (opened s .waitingForAddress 0x2F false false .extendedRegisters)
      (some (status s)) (preLogs s) s.syncPulse ∧
    Completes .erd s (opened s .waitingForAddress 0x2F true false .extendedRegisters)
      (some (status s)) (preLogs s) s.syncPulse ∧
    Completes .ewrb s (opened s .waitingForAddress 0x2F false true .extendedRegisters)
      (some (status s)) (preLogs s) s.syncPulse ∧
    Completes .erdb s (opened s .waitingForAddress 0x2F true true .extendedRegisters)
      (some (status s)) (preLogs s) s.syncPulse

/-- DWR, DRD, DWRB, DRDB wait for an address byte; FEC_SELECT picks their kind (R128, R160 to R163; the kind is decision D6,
notes/assumptions/25.md, and the address 0x3E held until the address byte is the model's choice, 33.md). -/
def Obligations.DirectHeadersAwaitAddress : Prop :=
  ∀ (s : State) (k : TargetKind), k = (if s.cfg.fecSelect then .fecWorkspaceOrFreeArea else .directFifo) →
    Completes .dwr s (opened s .waitingForAddress 0x3E false false k) (some (status s)) (preLogs s) s.syncPulse ∧
    Completes .drd s (opened s .waitingForAddress 0x3E true false k) (some (status s)) (preLogs s) s.syncPulse ∧
    Completes .dwrb s (opened s .waitingForAddress 0x3E false true k) (some (status s)) (preLogs s) s.syncPulse ∧
    Completes .drdb s (opened s .waitingForAddress 0x3E true true k) (some (status s)) (preLogs s) s.syncPulse

/-- FWR, FRD, FWRB, FRDB skip the address phase (R164 to R167). -/
def Obligations.FifoHeadersSkipAddress : Prop :=
  ∀ s : State,
    Completes .fwr s (opened s .waitingForData 0x3F false false .standardFifo)
      (some (status s)) (preLogs s) s.syncPulse ∧
    Completes .frd s (opened s .readout 0x3F true false .standardFifo)
      (some (status s)) (preLogs s) s.syncPulse ∧
    Completes .fwrb s (opened s .waitingForData 0x3F false true .standardFifo)
      (some (status s)) (preLogs s) s.syncPulse ∧
    Completes .frdb s (opened s .readout 0x3F true true .standardFifo)
      (some (status s)) (preLogs s) s.syncPulse

/-! ### Operand bytes -/

/-- ADDR_BYTE replaces the descriptor's address, moves to the phase of its RW bit, and answers 0x00 (R169). -/
def Obligations.AddressByteSetsTarget : Prop :=
  ∀ (s : State) (d : AccessDescriptor) (x : Byte), s.desc = some d →
    Completes (.addrByte x) s
      { s with bus := if d.isRead then .readout else .waitingForData, desc := some { d with addr := x } }
      (some 0x00) (preLogs s) s.syncPulse

/-- DATA_BYTE of a register access: a stored cell takes the byte and every other cell reads as before; a write of the
CRC_CFG cell selects the active pair; a computed or unbacked address discards the byte with its log
(R170 to R172, R180, 20_memory.md R81 to R84). -/
def Obligations.DataByteWritesOneCell : Prop :=
  ∀ (s : State) (d : AccessDescriptor) (b : Byte) (sp : Space), s.desc = some d → spaceOf d.kind = some sp →
    (cellKind s.cfg sp d.addr = .stored →
      ∃ m poly seed,
        Completes (.dataByte b) s { phased s d with bank := m, activePoly := poly, activeSeed := seed }
          (some (status s)) (preLogs s) s.syncPulse ∧
        (Memory.wf s.cfg s.bank = true → Memory.wf s.cfg m = true ∧
          ∀ k, Memory.read s.cfg m k = if k = cellKey sp d.addr then b else Memory.read s.cfg s.bank k) ∧
        (poly, seed) =
          if inCell s.cfg.regMap.crcCfg sp d.addr then
            if crcCfgOf s.cfg b = 1 then (s.cfg.crcTable.mode1.poly, s.cfg.crcTable.mode1.seed)
            else if crcCfgOf s.cfg b = 2 then (s.cfg.crcTable.mode2.poly, s.cfg.crcTable.mode2.seed)
            else if crcCfgOf s.cfg b = 3 then (s.cfg.crcTable.mode3.poly, s.cfg.crcTable.mode3.seed)
            else (s.activePoly, s.activeSeed)
          else (s.activePoly, s.activeSeed)) ∧
    (cellKind s.cfg sp d.addr = .computed →
      Completes (.dataByte b) s (phased s d) (some (status s)) (preLogs s ++ [.log .readOnlyWrite]) s.syncPulse) ∧
    (cellKind s.cfg sp d.addr = .unbacked →
      Completes (.dataByte b) s (phased s d) (some (status s)) (preLogs s ++ [.log .unbackedWrite]) s.syncPulse)

/-- DATA_BYTE of a standard-FIFO access: the byte goes to the tail of the TX FIFO, or is lost with a log when
FIFO_CAPACITY bytes are held (R173, 20_memory.md R87). -/
def Obligations.DataByteEnqueuesTx : Prop :=
  ∀ (s : State) (d : AccessDescriptor) (b : Byte), s.desc = some d → d.kind = .standardFifo →
    (s.txFifo.length ≠ s.cfg.fifoCapacity →
      Completes (.dataByte b) s { phased s d with txFifo := s.txFifo ++ [b] } (some (status s)) (preLogs s)
        s.syncPulse) ∧
    (s.txFifo.length = s.cfg.fifoCapacity →
      Completes (.dataByte b) s (phased s d) (some (status s)) (preLogs s ++ [.log .txOverflow]) s.syncPulse)

/-- DATA_BYTE of a direct access: discarded; under Refuse the sticky mark is set. That the source gives it no effect, and
the mark, are the spec's decision D7 (notes/assumptions/19.md). -/
def Obligations.DirectDataByteIsRefused : Prop :=
  ∀ (s : State) (d : AccessDescriptor) (b : Byte), s.desc = some d → isDirect d.kind →
    (s.cfg.directPolicy = .refuse →
      Completes (.dataByte b) s
        { phased s d with refused := true, refusedReason := some .directAccessUnmodelled }
        (some (status s)) (preLogs s ++ [.log .unmodelledAccess]) s.syncPulse) ∧
    (s.cfg.directPolicy = .peek →
      Completes (.dataByte b) s (phased s d) (some (status s)) (preLogs s ++ [.log .unmodelledAccess]) s.syncPulse)

/-- READOUT_BYTE of a register access answers the cell and changes nothing but the phase: a stored cell as
WRITE_ONLY_READBACK says, a computed cell from the state, an unbacked address 0x00 with a log (R175 to R177, 20_memory.md
R80 to R82, 10_state.md R39 to R41; which bits Zero hides is decision D16, notes/assumptions/29.md, and the layout of a
register map's computed cells is the model's, 11.md). -/
def Obligations.ReadoutAnswersCell : Prop :=
  ∀ (s : State) (d : AccessDescriptor) (x : Byte) (sp : Space), s.desc = some d → spaceOf d.kind = some sp →
    (cellKind s.cfg sp d.addr = .stored →
      ∃ v, Completes (.readoutByte x) s (phased s d) (some v) (preLogs s) s.syncPulse ∧
        (s.cfg.writeOnlyReadback = .stored → v = s.cell sp d.addr) ∧
        (s.cfg.writeOnlyReadback = .zero → ∀ i, i < 8 →
          (v.getLsbD i = true ↔ (s.cell sp d.addr).getLsbD i = true ∧
            ∀ p ∈ [s.cfg.regMap.crcCfg, s.cfg.regMap.freq2, s.cfg.regMap.freq1, s.cfg.regMap.freq0],
              ¬(inCell p sp d.addr ∧ p.lo ≤ i ∧ i < p.lo + p.width)))) ∧
    (cellKind s.cfg sp d.addr = .computed →
      Completes (.readoutByte x) s (phased s d) (some (computedByte s sp d.addr)) (preLogs s) s.syncPulse) ∧
    (cellKind s.cfg sp d.addr = .unbacked →
      Completes (.readoutByte x) s (phased s d) (some 0x00) (preLogs s ++ [.log .unbackedRead]) s.syncPulse)

/-- READOUT_BYTE of a standard-FIFO access dequeues the RX FIFO, and answers 0x00 with a log when it is empty
(R178, 20_memory.md R88). -/
def Obligations.ReadoutDequeuesRx : Prop :=
  ∀ (s : State) (d : AccessDescriptor) (x : Byte), s.desc = some d → d.kind = .standardFifo →
    (∀ v rest, s.rxFifo = v :: rest →
      Completes (.readoutByte x) s { phased s d with rxFifo := rest } (some v) (preLogs s) s.syncPulse) ∧
    (s.rxFifo = [] →
      Completes (.readoutByte x) s (phased s d) (some 0x00) (preLogs s ++ [.log .rxUnderflow]) s.syncPulse)

/-- READOUT_BYTE of a direct access: under Refuse a free byte and the sticky mark; under Peek the FIFO byte its address
names. Both are the spec's decision D7; the free byte is the value the model leaves open (notes/assumptions/4.md, 19.md). -/
def Obligations.DirectReadoutIsRefused : Prop :=
  ∀ (s : State) (d : AccessDescriptor) (x : Byte), s.desc = some d → isDirect d.kind →
    (s.cfg.directPolicy = .refuse →
      Completes (.readoutByte x) s
        { phased s d with refused := true, refusedReason := some .directAccessUnmodelled, draws := s.draws + 1 }
        (some (Config.freeByte s.draws)) (preLogs s ++ [.log .unmodelledAccess]) s.syncPulse) ∧
    (s.cfg.directPolicy = .peek →
      Completes (.readoutByte x) s (phased s d)
        (some (if d.addr.toNat < 0x80 then s.txFifo.getD d.addr.toNat 0x00
          else s.rxFifo.getD (d.addr.toNat - 0x80) 0x00)) (preLogs s) s.syncPulse)

/-- An operand byte run while no access is in progress, or data or read-out for a kind that has none, stops with noAccess.
The spec leaves no such state reachable; the fault is the model's choice (notes/assumptions/8.md). -/
def Obligations.OperandWithoutAccessFaults : Prop :=
  ∀ (s : State) (x : Byte),
    (s.desc = none → exec (.addrByte x) s = .fault .noAccess ∧ exec (.dataByte x) s = .fault .noAccess ∧
      exec (.readoutByte x) s = .fault .noAccess) ∧
    (∀ d, s.desc = some d → d.kind = .commandStrobe →
      exec (.dataByte x) s = .fault .noAccess ∧ exec (.readoutByte x) s = .fault .noAccess)

/-- The bus state after every byte is the one the transition table gives for the state, the kind, the RW bit and the B
bit (R182). -/
def Obligations.BusFollowsTable : Prop :=
  ∀ (s t : State) (b : Byte), exec (decodeByte s.cfg.header s.bus b) s = .next t →
    t.bus =
      match s.desc, s.bus with
      | _, .waitingForHeader =>
        busNext .waitingForHeader (decodeTarget s.cfg.fecSelect (hdrTarget b)) (b.getLsbD s.cfg.header.hdrRwBit)
          (b.getLsbD s.cfg.header.hdrBurstBit)
      | some d, bus => busNext bus d.kind d.isRead d.isBurst
      | none, bus => bus

/-! ### Strobes -/

/-- The default STROBE_MAP and CALIBRATE_CODES (30_encoding.md R123; the codes are the spec's decisions D3 and D4). -/
def Obligations.DefaultStrobeTable : Prop :=
  ∀ s : State, s.cfg = defaultConfig →
    strobeOf s.cfg 0x30 = .reset ∧ strobeOf s.cfg 0x31 = .calibrate ∧ strobeOf s.cfg 0x32 = .unknown ∧
    strobeOf s.cfg 0x33 = .unknown ∧ strobeOf s.cfg 0x34 = .enableRx ∧ strobeOf s.cfg 0x35 = .enableTx ∧
    strobeOf s.cfg 0x36 = .goIdle ∧ strobeOf s.cfg 0x37 = .unknown ∧ strobeOf s.cfg 0x38 = .unknown ∧
    strobeOf s.cfg 0x39 = .sleep ∧ strobeOf s.cfg 0x3A = .flushRx ∧ strobeOf s.cfg 0x3B = .flushTx ∧
    strobeOf s.cfg 0x3C = .unknown ∧ strobeOf s.cfg 0x3D = .noOperation

/-- SNOP does nothing; SXOFF, SCAL, SAFC, SWOR and SWORRST only log, wherever the map calls them unknown
(41_command_strobes.md R203, R204, R208, R209, R213 to R215). -/
def Obligations.IdleStrobesChangeNothing : Prop :=
  ∀ (s : State) (rw b : Bool),
    (strobeOf s.cfg 0x3D = .noOperation →
      Completes (.snop rw b) s (ended s) (some (status s)) (preLogs s) s.syncPulse) ∧
    (strobeOf s.cfg 0x32 = .unknown →
      Completes (.sxoff rw b) s (ended s) (some (status s)) (preLogs s ++ [.log .unknownStrobe]) s.syncPulse) ∧
    (strobeOf s.cfg 0x33 = .unknown →
      Completes (.scal rw b) s (ended s) (some (status s)) (preLogs s ++ [.log .unknownStrobe]) s.syncPulse) ∧
    (strobeOf s.cfg 0x37 = .unknown →
      Completes (.safc rw b) s (ended s) (some (status s)) (preLogs s ++ [.log .unknownStrobe]) s.syncPulse) ∧
    (strobeOf s.cfg 0x38 = .unknown →
      Completes (.swor rw b) s (ended s) (some (status s)) (preLogs s ++ [.log .unknownStrobe]) s.syncPulse) ∧
    (strobeOf s.cfg 0x3C = .unknown →
      Completes (.sworrst rw b) s (ended s) (some (status s)) (preLogs s ++ [.log .unknownStrobe]) s.syncPulse)

/-- SFSTXON, SIDLE and SPWD set FastTxReady, Idle and Off from every mode and change nothing else; so does SCAL where
CALIBRATE_CODES holds its code (R202, R204, R207, R210). -/
def Obligations.ModeStrobesSetMode : Prop :=
  ∀ (s : State) (rw b : Bool),
    (strobeOf s.cfg 0x31 = .calibrate →
      Completes (.sfstxon rw b) s { ended s with mode := .fastTxReady } (some (status s)) (preLogs s) s.syncPulse) ∧
    (strobeOf s.cfg 0x33 = .calibrate →
      Completes (.scal rw b) s { ended s with mode := .fastTxReady } (some (status s)) (preLogs s) s.syncPulse) ∧
    (strobeOf s.cfg 0x36 = .goIdle →
      Completes (.sidle rw b) s { ended s with mode := .idle } (some (status s)) (preLogs s) s.syncPulse) ∧
    (strobeOf s.cfg 0x39 = .sleep →
      Completes (.spwd rw b) s { ended s with mode := .off } (some (status s)) (preLogs s) s.syncPulse)

/-- SFRX and SFTX empty their FIFO in every mode and change nothing else (R211, R212). -/
def Obligations.FlushStrobesEmptyFifo : Prop :=
  ∀ (s : State) (rw b : Bool),
    (strobeOf s.cfg 0x3A = .flushRx →
      Completes (.sfrx rw b) s { ended s with rxFifo := [] } (some (status s)) (preLogs s) s.syncPulse) ∧
    (strobeOf s.cfg 0x3B = .flushTx →
      Completes (.sftx rw b) s { ended s with txFifo := [] } (some (status s)) (preLogs s) s.syncPulse)

/-- SRX enters ReceiveMode; an entry with a frame pending processes it, and what that leaves is the result (R205,
10_state.md R25). -/
def Obligations.SrxProcessesPending : Prop :=
  ∀ (s : State) (rw b : Bool), strobeOf s.cfg 0x34 = .enableRx →
    (s.mode = .receiveMode ∨ s.pending = none →
      Completes (.srx rw b) s { ended s with mode := .receiveMode } (some (status s)) (preLogs s) s.syncPulse) ∧
    (∀ f p, s.mode ≠ .receiveMode → s.pending = some f →
      p = processFrame f { s with mode := .receiveMode, pending := none, resp := none, out := preLogs s } →
      Completes (.srx rw b) s (ended p) (some (status s)) p.out p.syncPulse)

/-- STX sends the whole TX FIFO as one frame, with its FCS and missing header bytes as 0x00, from every mode; then the
TX-off mode and the pulse. A pending frame is processed between the frame and the pulse where the TX-off mode is
ReceiveMode (R206, 44_frame_transmit.md R290 to R297). -/
def Obligations.StxSendsWholeFifo : Prop :=
  ∀ (s : State) (rw b : Bool), strobeOf s.cfg 0x35 = .enableTx → ¬TxAborts s →
    (txoffMode s ≠ 3 ∨ s.pending = none →
      Completes (.stx rw b) s { ended s with mode := offMode (txoffMode s), txFifo := [] } (some (status s))
        (preLogs s ++ txUnderflows s ++ [.frameSent (txSent s)] ++ lineTrace s (s.syncPulse + 1)) 0) ∧
    (∀ f p, txoffMode s = 3 → s.pending = some f →
      p = processFrame f { s with
        mode := .receiveMode, pending := none, txFifo := [], resp := none
        out := preLogs s ++ txUnderflows s ++ [.frameSent (txSent s)] } →
      Completes (.stx rw b) s (ended p) (some (status s)) (p.out ++ lineTrace s (p.syncPulse + 1)) 0)

/-- STX with a g-mode header whose MS bit is set sends nothing: the FIFO is cleared, the mode stays TransmitMode and there
is no pulse (R292; the mode and the pulse are the spec's decision D33, notes/assumptions/32.md). -/
def Obligations.StxAbortsOnModeSwitch : Prop :=
  ∀ (s : State) (rw b : Bool), strobeOf s.cfg 0x35 = .enableTx → TxAborts s →
    Completes (.stx rw b) s { ended s with mode := .transmitMode, txFifo := [] } (some (status s))
      (preLogs s ++ txUnderflows s ++ [.log .modeSwitchUnsupported]) s.syncPulse

/-- SRES resets the whole device, but for cs, the sticky mark and what is not the device's; every cell reads its reset
value (R201, 70_reset_and_hazards.md R371, R372; what survives is the spec's decisions D10 and D47, and that the reason
survives with the mark is the model's choice: notes/assumptions/10.md). -/
def Obligations.SresResetsDevice : Prop :=
  ∀ (s : State) (rw b : Bool), strobeOf s.cfg 0x30 = .reset →
    Completes (.sres rw b) s
      { State.reset with
        activePoly := (resetPair s.cfg).poly, activeSeed := (resetPair s.cfg).seed
        gpio := ⟨false, false, false, false, !s.cs⟩, cs := s.cs
        refused := s.refused, refusedReason := s.refusedReason
        input := s.input, draws := s.draws, cfg := s.cfg }
      (some (status s)) (preLogs s) 0

/-- What a strobe does is its command's alone: two strobe headers whose codes STROBE_MAP gives one command do the same from
every state, whatever their RW and B bits and their codes (30_encoding.md R123, 40_bus_access.md R168,
41_command_strobes.md R200; that the two bits are ignored is the spec's decision D11). -/
def Obligations.StrobeEffectIsItsCommand : Prop :=
  ∀ (s : State) (t u : Target) (rw b rw' b' : Bool) (i j : Instr),
    decodeStrobe t rw b = some i → decodeStrobe u rw' b' = some j → strobeOf s.cfg t = strobeOf s.cfg u →
    exec i s = exec j s

/-! ### Events that are no bytes -/

/-- SET_CS: assertion changes cs and the lines; deassertion also forces Idle from Off and ends any access (R181; the end of
the access is the spec's decision D9, notes/assumptions/18.md). -/
def Obligations.ChipSelectSetsLevel : Prop :=
  ∀ s : State,
    Completes (.setCs true) s { s with cs := true } none [] s.syncPulse ∧
    Completes (.setCs false) s
      { s with
        cs := false
        mode := if s.mode = .off then .idle else s.mode
        bus := if s.cfg.csDeassertResetsBus then .waitingForHeader else s.bus
        desc := if s.cfg.csDeassertResetsBus then none else s.desc } none [] s.syncPulse

/-- RECEIVE outside ReceiveMode holds the frame, replacing any held one; in ReceiveMode it processes it
(43_frame_receive.md R250). -/
def Obligations.ReceiveHoldsOrProcesses : Prop :=
  ∀ (s : State) (f : List Byte),
    (s.mode ≠ .receiveMode → Completes (.receive f) s { s with pending := some f } none [] s.syncPulse) ∧
    (∀ p, s.mode = .receiveMode → p = processFrame f { s with resp := none, out := [] } →
      Completes (.receive f) s p none p.out p.syncPulse)

/-- Every drop of the receive pipeline, in order: nothing is enqueued, no pulse is given, and Idle is forced exactly under
TERM_ON_BAD_PACKET_EN, but never by a short frame (R252, R255 to R268). What the source leaves open here are the spec's
decisions, the model's DESIGN CHOICE entries: LENGTH_CONFIG = 2 is D22 (notes/assumptions/16.md); the short frame D27, the
CRC flag D26 and that only the first failing check reports D58 (31.md). -/
def Obligations.DroppedFrameLeavesFifo : Prop :=
  ∀ (s : State) (f : List Byte),
    let forced : ChipMode := if termOnBadPacket s then .idle else s.mode
    (f.length ≤ 2 → processFrame f s = { drawn s with out := s.out ++ [.log .shortFrame] }) ∧
    (2 < f.length → lengthConfig s = 2 → s.cfg.infiniteLength = .drop →
      processFrame f s = { drawn s with mode := forced, out := s.out ++ [.log .lengthModeUnsupported] }) ∧
    (2 < f.length → lengthConfig s ≠ 2 → lengthLimit s < (declaredLength s f : Int) →
      processFrame f s = { drawn s with mode := forced, out := s.out ++ [.log .badLength] }) ∧
    (2 < f.length → PassesLength s f → ¬PassesAddress s f →
      processFrame f s = { drawn s with mode := forced, out := s.out ++ [.log .badAddress] }) ∧
    (2 < f.length → PassesLength s f → PassesAddress s f → crcCheck s f = false → crcAutoflush s = true →
      processFrame f s =
        { drawn s with mode := forced, lastCrcOk := false, out := s.out ++ [.log .badCrc] })

/-- An accepted frame: its bytes without the FCS and with the status bytes go into the RX FIFO in order, those past
FIFO_CAPACITY are lost with a log each; then the RX-off mode, the ACK where one is asked for, the pulse and its Refresh
(R266 to R276; the header kept, the status bytes, the CRC flag, the ACK's condition and place, and an overflow still accepted
are decisions D24 to D26, D30, D57 and D59, notes/assumptions/31.md; the layouts D31 and D32 are 14.md). -/
def Obligations.AcceptedFrameIsEnqueued : Prop :=
  ∀ (s p : State) (f : List Byte), s.rxFifo.length ≤ s.cfg.fifoCapacity → Accepted s f → p = processFrame f s →
    RefreshedFrom s p ∧
    ∃ ack,
      p = { drawn s with
        rxFifo := (s.rxFifo ++ offered s f).take s.cfg.fifoCapacity
        mode := offMode (rxoffMode s)
        lastCrcOk := crcCheck s f
        gpio := p.gpio, txFullLatch := p.txFullLatch, syncPulse := 0
        out := s.out ++ (if crcCheck s f then [] else [.log .crcMismatchKept])
          ++ List.replicate (s.rxFifo.length + (offered s f).length - s.cfg.fifoCapacity) (.log .rxOverflow)
          ++ ack ++ lineTrace s (s.syncPulse + 1) } ∧
      (AckAsked s f →
        ack = [.frameSent (ackFrame s (frameByte ((stripped s f).drop (headerLength s)) 2))]) ∧
      (¬AckAsked s f → ack = [])

/-- RECEIVE of an accepted frame in ReceiveMode, end to end: what the host finds in the RX FIFO, the mode and the CRC flag
(R250, R266, R271, R272). That the header is kept is the spec's decision D24, the status bytes D25, the CRC flag D26, and
that a frame cut short by an overflow is still accepted D59: DESIGN CHOICE entries (notes/assumptions/31.md, 4.md). -/
def Obligations.ReceivedFrameReachesHost : Prop :=
  ∀ (s : State) (f : List Byte), s.rxFifo.length ≤ s.cfg.fifoCapacity → s.mode = .receiveMode → Accepted s f →
    ∃ t, exec (.receive f) s = .next t ∧
      t.rxFifo = (s.rxFifo ++ offered s f).take s.cfg.fifoCapacity ∧ t.mode = offMode (rxoffMode s) ∧
      t.lastCrcOk = crcCheck s f ∧ t.bank = s.bank ∧ t.txFifo = s.txFifo ∧ t.pending = s.pending

/-- The source's ACK property: an accepted legacy frame that asks for an acknowledgment, under the described conditions,
makes the device send exactly one frame, the ACK with its sequence number (R273, R274; the ACK's layout is the spec's
decision D32, notes/assumptions/14.md). -/
def Obligations.AckCarriesSequenceNumber : Prop :=
  ∀ (s : State) (f : List Byte), s.mode = .receiveMode → Accepted s f → AckAsked s f →
    s.cfg.ack = defaultConfig.ack → gMode s = false → crcEnabled s = true →
    ∃ t, exec (.receive f) s = .next t ∧
      framesOf t.out =
        [[0x05, 0x02, 0x00, frameByte f 3] ++
          crc16Bytes s.cfg (crc16 s.cfg s.activePoly s.activeSeed [0x02, 0x00, frameByte f 3])] ∧
      t.mode = .transmitMode

/-- POWER_ON_RESET constructs the device anew and emits nothing; doing it twice changes nothing more (R370, R372).
The configuration, the events to come and the count of draws are not the device's (notes/assumptions/22.md); the reset values
that the source does not give are 10.md. -/
def Obligations.PowerOnResetRebuildsDevice : Prop :=
  ∀ s : State, ∃ t, exec .powerOnReset s = .next t ∧
    t = { State.reset with
      activePoly := (resetPair s.cfg).poly, activeSeed := (resetPair s.cfg).seed
      input := s.input, draws := s.draws, cfg := s.cfg } ∧
    t.out = [] ∧ exec .powerOnReset t = .next t

/-- The reset routine is idempotent, and its result does not depend on the state before but for cs and the mark where it
keeps them (R373; what survives is the spec's decisions D10 and D47, and the reason's part in it the model's choice,
notes/assumptions/10.md). -/
def Obligations.ResetIsIdempotent : Prop :=
  ∀ (s u : State) (k : Bool),
    deviceReset k (deviceReset k s) = deviceReset k s ∧
    (s.cfg = u.cfg → s.resp = u.resp → s.out = u.out → s.input = u.input → s.draws = u.draws →
      (k = true → s.cs = u.cs ∧ s.refused = u.refused ∧ s.refusedReason = u.refusedReason) →
      deviceReset k s = deviceReset k u)

/-! ### Rules over the whole machine -/

/-- No instruction writes the configuration or the events to come. -/
def Obligations.ConfigurationNeverChanges : Prop :=
  ∀ (i : Instr) (s t : State), exec i s = .next t → t.cfg = s.cfg ∧ t.input = s.input

/-- The register bank is written only by the data phase of a register access and by reset: no strobe, no frame and no level
touches a cell (10_state.md R20, 43_frame_receive.md R251). -/
def Obligations.BankWrittenOnlyByDataPhase : Prop :=
  ∀ (i : Instr) (s t : State), exec i s = .next t → t.bank ≠ s.bank →
    (∃ b d, i = .dataByte b ∧ s.desc = some d ∧ spaceOf d.kind ≠ none ∧
      t.bank = Memory.write s.cfg (cellKey ((spaceOf d.kind).getD .std) d.addr) b s.bank) ∨
    (IsReset s.cfg i ∧ t.bank = []) ∨ (i = .powerOnReset ∧ t.bank = [])

/-- The CRC pair changes only by a write of the CRC_CFG cell and by reset (10_state.md R43). -/
def Obligations.CrcPairWrittenOnlyByCallback : Prop :=
  ∀ (i : Instr) (s t : State), exec i s = .next t →
    (t.activePoly ≠ s.activePoly ∨ t.activeSeed ≠ s.activeSeed) →
    (∃ b d, i = .dataByte b ∧ s.desc = some d ∧ spaceOf d.kind = some s.cfg.regMap.crcCfg.space ∧
      d.addr = s.cfg.regMap.crcCfg.addr) ∨
    IsReset s.cfg i ∨ i = .powerOnReset

/-- The mode changes only by a strobe, by a frame processed in ReceiveMode, by a deassertion in Off, which enters Idle, and
by power-on reset; it never becomes Calibrate, Settling, RxFIFOError or TxFIFOError (10_state.md R24). -/
def Obligations.ModeWriters : Prop :=
  ∀ (i : Instr) (s t : State), exec i s = .next t → t.mode ≠ s.mode →
    (IsStrobe i ∨ (∃ f, i = .receive f ∧ s.mode = .receiveMode) ∨
      (i = .setCs false ∧ s.mode = .off ∧ t.mode = .idle) ∨ (i = .powerOnReset ∧ t.mode = .off)) ∧
    t.mode ≠ .calibrate ∧ t.mode ≠ .settling ∧ t.mode ≠ .rxFifoError ∧ t.mode ≠ .txFifoError

/-- The sticky mark is set only by the data or read-out byte of a direct access and cleared only by power-on reset
(10_state.md R44, 60_exceptions.md R358; the spec's decision D7, notes/assumptions/19.md; that the reason is none at power-on
and kept by SRES is the model's choice, 10.md). -/
def Obligations.RefusedMarkIsSticky : Prop :=
  ∀ (i : Instr) (s t : State), exec i s = .next t →
    (t.refused = s.refused ∧ t.refusedReason = s.refusedReason) ∨
    (t.refused = true ∧ t.refusedReason = some .directAccessUnmodelled ∧ s.cfg.directPolicy = .refuse ∧
      ∃ x d, (i = .dataByte x ∨ i = .readoutByte x) ∧ s.desc = some d ∧ isDirect d.kind) ∨
    (i = .powerOnReset ∧ t.refused = false ∧ t.refusedReason = none)

/-- cs is written only by the chip-select event and power-on reset; the pending slot is filled only by a frame outside
ReceiveMode and emptied only by a strobe or power-on reset (10_state.md R42, R48). -/
def Obligations.LevelAndSlotWriters : Prop :=
  ∀ (i : Instr) (s t : State), exec i s = .next t →
    (t.cs = s.cs ∨ i = .setCs t.cs ∨ (i = .powerOnReset ∧ t.cs = false)) ∧
    (t.pending = s.pending ∨ (∃ f, i = .receive f ∧ s.mode ≠ .receiveMode ∧ t.pending = some f) ∨
      ((IsStrobe i ∨ i = .powerOnReset) ∧ t.pending = none))

/-- The MISO line is low exactly while chip select is asserted, after every event and whatever the IOCFG cells and the
configuration hold (45_gpio_mux.md R322). -/
def Obligations.MisoLineIsNotCs : Prop :=
  ∀ (i : Instr) (s t : State), exec i s = .next t → t.gpio.miso = !t.cs

/-- After every event but power-on reset, each line shows its role: the thresholds, the latch, the two mode lines, the
ready line; the sync line is low between blinks (45_gpio_mux.md R313 to R319, R324; the codes and formulas are the spec's
decisions D36 to D39, notes/assumptions/21.md). -/
def Obligations.LinesShowRoles : Prop :=
  ∀ (i : Instr) (s t : State) (l : Line), exec i s = .next t → i ≠ .powerOnReset →
    s.cfg.gpioRoles = defaultConfig.gpioRoles → s.cfg.gpioInvHonoured = false →
    (roleCode t l = 0x00 → (t.gpio.get l = true ↔ (fifoThr t).toNat + 1 ≤ t.rxFifo.length)) ∧
    (roleCode t l = 0x02 → (t.gpio.get l = true ↔ 127 ≤ t.txFifo.length + (fifoThr t).toNat)) ∧
    (roleCode t l = 0x03 → t.gpio.get l = t.txFullLatch) ∧
    (roleCode t l = 0x06 → t.gpio.get l = false) ∧
    (roleCode t l = 0x25 → (t.gpio.get l = true ↔ t.mode = .idle ∨ t.mode = .receiveMode)) ∧
    (roleCode t l = 0x26 → (t.gpio.get l = true ↔ t.mode = .idle ∨ t.mode = .transmitMode)) ∧
    (roleCode t l = 0x32 → (t.gpio.get l = true ↔ t.mode = .off))

/-- Every byte first logs that the device is not selected, then that it is Off, and is processed all the same; its
response is there exactly for a byte (40_bus_access.md R150, 60_exceptions.md R342, R348). -/
def Obligations.PreChecksComeFirst : Prop :=
  ∀ (i : Instr) (s t : State), exec i s = .next t →
    (i.isEvent = false → (∃ o, t.out = preLogs s ++ o) ∧ t.resp ≠ none) ∧ (i.isEvent = true → t.resp = none)

/-- Every frame the device sends, by a transmit or as an ACK, passes its own CRC check under the same configuration and
pair (42_crc_engine.md R236, 44_frame_transmit.md R296, 43_frame_receive.md R274). -/
def Obligations.EveryFrameSentPassesCrcCheck : Prop :=
  ∀ (i : Instr) (s t : State) (f : List Byte),
    s.cfg.ack = defaultConfig.ack → s.cfg.phr = defaultConfig.phr →
    exec i s = .next t → .frameSent f ∈ t.out → crcCheck t f = true

/-! ### Operations -/

/-- The four address policies (43_frame_receive.md R262 to R265). -/
def Obligations.AddressPolicies : Prop :=
  ∀ a d : Byte,
    addressOk 0 a d = true ∧
    (addressOk 1 a d = true ↔ a = d) ∧
    (addressOk 2 a d = true ↔ a = d ∨ a = 0xFF) ∧
    (addressOk 3 a d = true ↔ a = d ∨ a = 0x00 ∨ a = 0xFF)

/-- `Drop(code)`: the code is logged, Idle is forced exactly under TERM_ON_BAD_PACKET_EN, and nothing else changes
(43_frame_receive.md R268). -/
def Obligations.DropForcesIdleOnlyIfConfigured : Prop :=
  ∀ (s : State) (code : DiagCode),
    dropFrame code s = { s with
      mode := if termOnBadPacket s then .idle else s.mode, out := s.out ++ [.log code] }

/-- `Dequeue` of either FIFO (20_memory.md R88). -/
def Obligations.DequeueTakesHead : Prop :=
  ∀ (s : State) (v : Byte) (rest : List Byte),
    (s.rxFifo = v :: rest → dequeue .rx s = (v, { s with rxFifo := rest })) ∧
    (s.txFifo = v :: rest → dequeue .tx s = (v, { s with txFifo := rest })) ∧
    (s.rxFifo = [] → dequeue .rx s = (0x00, { s with out := s.out ++ [.log .rxUnderflow] })) ∧
    (s.txFifo = [] → dequeue .tx s = (0x00, { s with out := s.out ++ [.log .txUnderflow] }))

/-- The source's length boundary: in VariableFirstByte mode with both margins on and a configured maximum L of 2 to 127,
L - 2 is accepted and L - 1 is not; from 128 on the limit is 125 (43_frame_receive.md R256; the formula is the spec's
decision D21, notes/assumptions/15.md). -/
def Obligations.LengthBoundary : Prop :=
  ∀ s : State, s.cfg.lengthRule = defaultConfig.lengthRule → lengthConfig s = 1 → crcAutoflush s = true →
    appendStatus s = true →
    (2 ≤ (packetLength s).toNat → (packetLength s).toNat ≤ 127 →
      lengthOk s ((packetLength s).toNat - 2) = true ∧ lengthOk s ((packetLength s).toNat - 1) = false) ∧
    (128 ≤ (packetLength s).toNat → lengthOk s 125 = true ∧ lengthOk s 126 = false)

/-- A write of one FREQ byte changes its slice of the 24-bit word and no other (20_memory.md R85; the addresses and the
order are the spec's decisions D13 and D49, notes/assumptions/5.md). -/
def Obligations.FrequencySlicesAreSeparate : Prop :=
  ∀ (s : State) (d : AccessDescriptor) (b : Byte), s.cfg.regMap = defaultConfig.regMap →
    Memory.wf s.cfg s.bank = true → s.desc = some d → d.kind = .extendedRegisters →
    ∃ t, exec (.dataByte b) s = .next t ∧
      (d.addr = 0x0C → freq t = b ++ s.cell .ext 0x0D ++ s.cell .ext 0x0E) ∧
      (d.addr = 0x0D → freq t = s.cell .ext 0x0C ++ b ++ s.cell .ext 0x0E) ∧
      (d.addr = 0x0E → freq t = s.cell .ext 0x0C ++ s.cell .ext 0x0D ++ b)

/-- The computed cells of the default register map: RSSI1, LQI_VAL with PKT_CRC_OK in bit 7, PARTNUMBER, NUM_TXBYTES and
NUM_RXBYTES are read from the state, and a write of one is discarded with its log (10_state.md R39 to R41, 20_memory.md R83;
the addresses and values are the spec's decisions D12, D13, D25, D26, D50, notes/assumptions/5.md, 11.md). -/
def Obligations.ComputedCellsOfDefaultMap : Prop :=
  ∀ (s : State) (v : Byte), s.cfg.regMap = defaultConfig.regMap →
    regRead .ext 0x71 s = (s.rssiTop, s) ∧
    regRead .ext 0x74 s = (BitVec.ofBool s.lastCrcOk ++ s.lqi, s) ∧
    regRead .ext 0x8F s = (s.cfg.partNumber, s) ∧
    regRead .ext 0xD6 s = (BitVec.ofNat 8 s.txFifo.length, s) ∧
    regRead .ext 0xD7 s = (BitVec.ofNat 8 s.rxFifo.length, s) ∧
    ∀ a ∈ ([0x71, 0x74, 0x8F, 0xD6, 0xD7] : List Byte),
      regWrite .ext a v s = { s with out := s.out ++ [.log .readOnlyWrite] }

/-- LENGTH_LIMIT may be any function of its arguments: for every function there is a rule under which the limit is that
function's value at the register bank's settings (00_scope.md R7). How a rule is written as data is the model's choice
(notes/assumptions/15.md). -/
def Obligations.LengthLimitIsAnyFunction : Prop :=
  ∀ f : BitVec 2 → Byte → Bool → Bool → Int, ∃ r : LengthRule, ∀ s : State, s.cfg.lengthRule = r →
    lengthLimit s = f (lengthConfig s) (packetLength s) (crcAutoflush s) (appendStatus s)

/-- Check values of the CRC engine over the ASCII string 123456789, in the default configuration (42_crc_engine.md R230 to
R233, R237; the algorithms are the spec's decisions D17 and D18, notes/assumptions/13.md). -/
def Obligations.CrcCheckValues : Prop :=
  let data : List Byte := [0x31, 0x32, 0x33, 0x34, 0x35, 0x36, 0x37, 0x38, 0x39]
  crc16 defaultConfig 0x8005 0xFFFF data = 0xAEE7 ∧
  crc16 defaultConfig 0x1021 0x0000 data = 0x31C3 ∧
  crc16 defaultConfig 0x1021 0x1D0F data = 0xE5CC ∧
  crc32 defaultConfig data = 0xCBF43926 ∧
  crc16Bytes defaultConfig 0xAEE7 = [0xAE, 0xE7] ∧
  crc32Bytes defaultConfig 0xCBF43926 = [0x26, 0x39, 0xF4, 0xCB]

/-- What reset leaves: Off, the bus waiting, both FIFOs empty, and cells at their documented values (70_reset_and_hazards.md
R371; the register values are the spec's decision D15, the other values D10 and D43 to D47, notes/assumptions/5.md,
10.md). -/
def Obligations.ResetValues : Prop :=
  State.reset.mode = .off ∧ State.reset.bus = .waitingForHeader ∧ State.reset.desc = none ∧
  State.reset.rxFifo = [] ∧ State.reset.txFifo = [] ∧ State.reset.pending = none ∧
  State.reset.cs = false ∧ State.reset.refused = false ∧ status State.reset = 0x80 ∧
  State.reset.activePoly = 0x8005 ∧ State.reset.activeSeed = 0xFFFF ∧
  State.reset.gpio = ⟨false, false, false, false, true⟩ ∧
  (regRead .std 0x00 State.reset).1 = 0x06 ∧ (regRead .std 0x1D State.reset).1 = 0x80 ∧
  (regRead .std 0x27 State.reset).1 = 0x03 ∧ (regRead .std 0x29 State.reset).1 = 0x0F ∧
  (regRead .std 0x2E State.reset).1 = 0x03 ∧ freq State.reset = 0x56CCCC ∧
  (regRead .ext 0x71 State.reset).1 = 0x00 ∧ (regRead .ext 0x74 State.reset).1 = 0x00 ∧
  (regRead .ext 0x8F State.reset).1 = 0x20 ∧ (regRead .ext 0xD6 State.reset).1 = 0x00 ∧
  (regRead .ext 0xD7 State.reset).1 = 0x00
end

