-- ==== Sys2Proof/Laws/State.lean ====
section
/-!
SUPPORT. One lemma per field per update, so that no proof unfolds a record update.
-/

namespace Sys2Proof.Machine

@[simp] theorem emit_mode (e : OutEvent) (s : State) : (s.emit e).mode = s.mode := rfl
@[simp] theorem emit_bus (e : OutEvent) (s : State) : (s.emit e).bus = s.bus := rfl
@[simp] theorem emit_desc (e : OutEvent) (s : State) : (s.emit e).desc = s.desc := rfl
@[simp] theorem emit_bank (e : OutEvent) (s : State) : (s.emit e).bank = s.bank := rfl
@[simp] theorem emit_activePoly (e : OutEvent) (s : State) : (s.emit e).activePoly = s.activePoly := rfl
@[simp] theorem emit_activeSeed (e : OutEvent) (s : State) : (s.emit e).activeSeed = s.activeSeed := rfl
@[simp] theorem emit_rxFifo (e : OutEvent) (s : State) : (s.emit e).rxFifo = s.rxFifo := rfl
@[simp] theorem emit_txFifo (e : OutEvent) (s : State) : (s.emit e).txFifo = s.txFifo := rfl
@[simp] theorem emit_pending (e : OutEvent) (s : State) : (s.emit e).pending = s.pending := rfl
@[simp] theorem emit_syncPulse (e : OutEvent) (s : State) : (s.emit e).syncPulse = s.syncPulse := rfl
@[simp] theorem emit_txFullLatch (e : OutEvent) (s : State) : (s.emit e).txFullLatch = s.txFullLatch := rfl
@[simp] theorem emit_cs (e : OutEvent) (s : State) : (s.emit e).cs = s.cs := rfl
@[simp] theorem emit_gpio (e : OutEvent) (s : State) : (s.emit e).gpio = s.gpio := rfl
@[simp] theorem emit_rssiTop (e : OutEvent) (s : State) : (s.emit e).rssiTop = s.rssiTop := rfl
@[simp] theorem emit_lqi (e : OutEvent) (s : State) : (s.emit e).lqi = s.lqi := rfl
@[simp] theorem emit_lastCrcOk (e : OutEvent) (s : State) : (s.emit e).lastCrcOk = s.lastCrcOk := rfl
@[simp] theorem emit_refused (e : OutEvent) (s : State) : (s.emit e).refused = s.refused := rfl
@[simp] theorem emit_refusedReason (e : OutEvent) (s : State) : (s.emit e).refusedReason = s.refusedReason := rfl
@[simp] theorem emit_resp (e : OutEvent) (s : State) : (s.emit e).resp = s.resp := rfl
@[simp] theorem emit_out (e : OutEvent) (s : State) : (s.emit e).out = s.out ++ [e] := rfl
@[simp] theorem emit_input (e : OutEvent) (s : State) : (s.emit e).input = s.input := rfl
@[simp] theorem emit_draws (e : OutEvent) (s : State) : (s.emit e).draws = s.draws := rfl
@[simp] theorem emit_cfg (e : OutEvent) (s : State) : (s.emit e).cfg = s.cfg := rfl

@[simp] theorem log_mode (c : DiagCode) (s : State) : (s.log c).mode = s.mode := rfl
@[simp] theorem log_bus (c : DiagCode) (s : State) : (s.log c).bus = s.bus := rfl
@[simp] theorem log_desc (c : DiagCode) (s : State) : (s.log c).desc = s.desc := rfl
@[simp] theorem log_bank (c : DiagCode) (s : State) : (s.log c).bank = s.bank := rfl
@[simp] theorem log_activePoly (c : DiagCode) (s : State) : (s.log c).activePoly = s.activePoly := rfl
@[simp] theorem log_activeSeed (c : DiagCode) (s : State) : (s.log c).activeSeed = s.activeSeed := rfl
@[simp] theorem log_rxFifo (c : DiagCode) (s : State) : (s.log c).rxFifo = s.rxFifo := rfl
@[simp] theorem log_txFifo (c : DiagCode) (s : State) : (s.log c).txFifo = s.txFifo := rfl
@[simp] theorem log_pending (c : DiagCode) (s : State) : (s.log c).pending = s.pending := rfl
@[simp] theorem log_syncPulse (c : DiagCode) (s : State) : (s.log c).syncPulse = s.syncPulse := rfl
@[simp] theorem log_txFullLatch (c : DiagCode) (s : State) : (s.log c).txFullLatch = s.txFullLatch := rfl
@[simp] theorem log_cs (c : DiagCode) (s : State) : (s.log c).cs = s.cs := rfl
@[simp] theorem log_gpio (c : DiagCode) (s : State) : (s.log c).gpio = s.gpio := rfl
@[simp] theorem log_rssiTop (c : DiagCode) (s : State) : (s.log c).rssiTop = s.rssiTop := rfl
@[simp] theorem log_lqi (c : DiagCode) (s : State) : (s.log c).lqi = s.lqi := rfl
@[simp] theorem log_lastCrcOk (c : DiagCode) (s : State) : (s.log c).lastCrcOk = s.lastCrcOk := rfl
@[simp] theorem log_refused (c : DiagCode) (s : State) : (s.log c).refused = s.refused := rfl
@[simp] theorem log_refusedReason (c : DiagCode) (s : State) : (s.log c).refusedReason = s.refusedReason := rfl
@[simp] theorem log_resp (c : DiagCode) (s : State) : (s.log c).resp = s.resp := rfl
@[simp] theorem log_out (c : DiagCode) (s : State) : (s.log c).out = s.out ++ [.log c] := rfl
@[simp] theorem log_input (c : DiagCode) (s : State) : (s.log c).input = s.input := rfl
@[simp] theorem log_draws (c : DiagCode) (s : State) : (s.log c).draws = s.draws := rfl
@[simp] theorem log_cfg (c : DiagCode) (s : State) : (s.log c).cfg = s.cfg := rfl

@[simp] theorem refuse_mode (r : RefuseReason) (s : State) : (s.refuse r).mode = s.mode := rfl
@[simp] theorem refuse_bus (r : RefuseReason) (s : State) : (s.refuse r).bus = s.bus := rfl
@[simp] theorem refuse_desc (r : RefuseReason) (s : State) : (s.refuse r).desc = s.desc := rfl
@[simp] theorem refuse_bank (r : RefuseReason) (s : State) : (s.refuse r).bank = s.bank := rfl
@[simp] theorem refuse_activePoly (r : RefuseReason) (s : State) : (s.refuse r).activePoly = s.activePoly := rfl
@[simp] theorem refuse_activeSeed (r : RefuseReason) (s : State) : (s.refuse r).activeSeed = s.activeSeed := rfl
@[simp] theorem refuse_rxFifo (r : RefuseReason) (s : State) : (s.refuse r).rxFifo = s.rxFifo := rfl
@[simp] theorem refuse_txFifo (r : RefuseReason) (s : State) : (s.refuse r).txFifo = s.txFifo := rfl
@[simp] theorem refuse_pending (r : RefuseReason) (s : State) : (s.refuse r).pending = s.pending := rfl
@[simp] theorem refuse_syncPulse (r : RefuseReason) (s : State) : (s.refuse r).syncPulse = s.syncPulse := rfl
@[simp] theorem refuse_txFullLatch (r : RefuseReason) (s : State) : (s.refuse r).txFullLatch = s.txFullLatch := rfl
@[simp] theorem refuse_cs (r : RefuseReason) (s : State) : (s.refuse r).cs = s.cs := rfl
@[simp] theorem refuse_gpio (r : RefuseReason) (s : State) : (s.refuse r).gpio = s.gpio := rfl
@[simp] theorem refuse_rssiTop (r : RefuseReason) (s : State) : (s.refuse r).rssiTop = s.rssiTop := rfl
@[simp] theorem refuse_lqi (r : RefuseReason) (s : State) : (s.refuse r).lqi = s.lqi := rfl
@[simp] theorem refuse_lastCrcOk (r : RefuseReason) (s : State) : (s.refuse r).lastCrcOk = s.lastCrcOk := rfl
@[simp] theorem refuse_refused (r : RefuseReason) (s : State) : (s.refuse r).refused = true := rfl
@[simp] theorem refuse_refusedReason (r : RefuseReason) (s : State) : (s.refuse r).refusedReason = some r := rfl
@[simp] theorem refuse_resp (r : RefuseReason) (s : State) : (s.refuse r).resp = s.resp := rfl
@[simp] theorem refuse_out (r : RefuseReason) (s : State) : (s.refuse r).out = s.out := rfl
@[simp] theorem refuse_input (r : RefuseReason) (s : State) : (s.refuse r).input = s.input := rfl
@[simp] theorem refuse_draws (r : RefuseReason) (s : State) : (s.refuse r).draws = s.draws := rfl
@[simp] theorem refuse_cfg (r : RefuseReason) (s : State) : (s.refuse r).cfg = s.cfg := rfl

@[simp] theorem writeMode_mode (m : ChipMode) (s : State) : (s.writeMode m).mode = m := rfl
@[simp] theorem writeMode_bus (m : ChipMode) (s : State) : (s.writeMode m).bus = s.bus := rfl
@[simp] theorem writeMode_desc (m : ChipMode) (s : State) : (s.writeMode m).desc = s.desc := rfl
@[simp] theorem writeMode_bank (m : ChipMode) (s : State) : (s.writeMode m).bank = s.bank := rfl
@[simp] theorem writeMode_activePoly (m : ChipMode) (s : State) : (s.writeMode m).activePoly = s.activePoly := rfl
@[simp] theorem writeMode_activeSeed (m : ChipMode) (s : State) : (s.writeMode m).activeSeed = s.activeSeed := rfl
@[simp] theorem writeMode_rxFifo (m : ChipMode) (s : State) : (s.writeMode m).rxFifo = s.rxFifo := rfl
@[simp] theorem writeMode_txFifo (m : ChipMode) (s : State) : (s.writeMode m).txFifo = s.txFifo := rfl
@[simp] theorem writeMode_pending (m : ChipMode) (s : State) : (s.writeMode m).pending = s.pending := rfl
@[simp] theorem writeMode_syncPulse (m : ChipMode) (s : State) : (s.writeMode m).syncPulse = s.syncPulse := rfl
@[simp] theorem writeMode_txFullLatch (m : ChipMode) (s : State) : (s.writeMode m).txFullLatch = s.txFullLatch := rfl
@[simp] theorem writeMode_cs (m : ChipMode) (s : State) : (s.writeMode m).cs = s.cs := rfl
@[simp] theorem writeMode_gpio (m : ChipMode) (s : State) : (s.writeMode m).gpio = s.gpio := rfl
@[simp] theorem writeMode_rssiTop (m : ChipMode) (s : State) : (s.writeMode m).rssiTop = s.rssiTop := rfl
@[simp] theorem writeMode_lqi (m : ChipMode) (s : State) : (s.writeMode m).lqi = s.lqi := rfl
@[simp] theorem writeMode_lastCrcOk (m : ChipMode) (s : State) : (s.writeMode m).lastCrcOk = s.lastCrcOk := rfl
@[simp] theorem writeMode_refused (m : ChipMode) (s : State) : (s.writeMode m).refused = s.refused := rfl
@[simp] theorem writeMode_refusedReason (m : ChipMode) (s : State) : (s.writeMode m).refusedReason = s.refusedReason := rfl
@[simp] theorem writeMode_resp (m : ChipMode) (s : State) : (s.writeMode m).resp = s.resp := rfl
@[simp] theorem writeMode_out (m : ChipMode) (s : State) : (s.writeMode m).out = s.out := rfl
@[simp] theorem writeMode_input (m : ChipMode) (s : State) : (s.writeMode m).input = s.input := rfl
@[simp] theorem writeMode_draws (m : ChipMode) (s : State) : (s.writeMode m).draws = s.draws := rfl
@[simp] theorem writeMode_cfg (m : ChipMode) (s : State) : (s.writeMode m).cfg = s.cfg := rfl

@[simp] theorem setBus_mode (b : BusState) (d : Option AccessDescriptor) (s : State) : (s.setBus b d).mode = s.mode := rfl
@[simp] theorem setBus_bus (b : BusState) (d : Option AccessDescriptor) (s : State) : (s.setBus b d).bus = b := rfl
@[simp] theorem setBus_desc (b : BusState) (d : Option AccessDescriptor) (s : State) : (s.setBus b d).desc = d := rfl
@[simp] theorem setBus_bank (b : BusState) (d : Option AccessDescriptor) (s : State) : (s.setBus b d).bank = s.bank := rfl
@[simp] theorem setBus_activePoly (b : BusState) (d : Option AccessDescriptor) (s : State) : (s.setBus b d).activePoly = s.activePoly := rfl
@[simp] theorem setBus_activeSeed (b : BusState) (d : Option AccessDescriptor) (s : State) : (s.setBus b d).activeSeed = s.activeSeed := rfl
@[simp] theorem setBus_rxFifo (b : BusState) (d : Option AccessDescriptor) (s : State) : (s.setBus b d).rxFifo = s.rxFifo := rfl
@[simp] theorem setBus_txFifo (b : BusState) (d : Option AccessDescriptor) (s : State) : (s.setBus b d).txFifo = s.txFifo := rfl
@[simp] theorem setBus_pending (b : BusState) (d : Option AccessDescriptor) (s : State) : (s.setBus b d).pending = s.pending := rfl
@[simp] theorem setBus_syncPulse (b : BusState) (d : Option AccessDescriptor) (s : State) : (s.setBus b d).syncPulse = s.syncPulse := rfl
@[simp] theorem setBus_txFullLatch (b : BusState) (d : Option AccessDescriptor) (s : State) : (s.setBus b d).txFullLatch = s.txFullLatch := rfl
@[simp] theorem setBus_cs (b : BusState) (d : Option AccessDescriptor) (s : State) : (s.setBus b d).cs = s.cs := rfl
@[simp] theorem setBus_gpio (b : BusState) (d : Option AccessDescriptor) (s : State) : (s.setBus b d).gpio = s.gpio := rfl
@[simp] theorem setBus_rssiTop (b : BusState) (d : Option AccessDescriptor) (s : State) : (s.setBus b d).rssiTop = s.rssiTop := rfl
@[simp] theorem setBus_lqi (b : BusState) (d : Option AccessDescriptor) (s : State) : (s.setBus b d).lqi = s.lqi := rfl
@[simp] theorem setBus_lastCrcOk (b : BusState) (d : Option AccessDescriptor) (s : State) : (s.setBus b d).lastCrcOk = s.lastCrcOk := rfl
@[simp] theorem setBus_refused (b : BusState) (d : Option AccessDescriptor) (s : State) : (s.setBus b d).refused = s.refused := rfl
@[simp] theorem setBus_refusedReason (b : BusState) (d : Option AccessDescriptor) (s : State) : (s.setBus b d).refusedReason = s.refusedReason := rfl
@[simp] theorem setBus_resp (b : BusState) (d : Option AccessDescriptor) (s : State) : (s.setBus b d).resp = s.resp := rfl
@[simp] theorem setBus_out (b : BusState) (d : Option AccessDescriptor) (s : State) : (s.setBus b d).out = s.out := rfl
@[simp] theorem setBus_input (b : BusState) (d : Option AccessDescriptor) (s : State) : (s.setBus b d).input = s.input := rfl
@[simp] theorem setBus_draws (b : BusState) (d : Option AccessDescriptor) (s : State) : (s.setBus b d).draws = s.draws := rfl
@[simp] theorem setBus_cfg (b : BusState) (d : Option AccessDescriptor) (s : State) : (s.setBus b d).cfg = s.cfg := rfl

@[simp] theorem respond_mode (r : Byte) (s : State) : (s.respond r).mode = s.mode := rfl
@[simp] theorem respond_bus (r : Byte) (s : State) : (s.respond r).bus = s.bus := rfl
@[simp] theorem respond_desc (r : Byte) (s : State) : (s.respond r).desc = s.desc := rfl
@[simp] theorem respond_bank (r : Byte) (s : State) : (s.respond r).bank = s.bank := rfl
@[simp] theorem respond_activePoly (r : Byte) (s : State) : (s.respond r).activePoly = s.activePoly := rfl
@[simp] theorem respond_activeSeed (r : Byte) (s : State) : (s.respond r).activeSeed = s.activeSeed := rfl
@[simp] theorem respond_rxFifo (r : Byte) (s : State) : (s.respond r).rxFifo = s.rxFifo := rfl
@[simp] theorem respond_txFifo (r : Byte) (s : State) : (s.respond r).txFifo = s.txFifo := rfl
@[simp] theorem respond_pending (r : Byte) (s : State) : (s.respond r).pending = s.pending := rfl
@[simp] theorem respond_syncPulse (r : Byte) (s : State) : (s.respond r).syncPulse = s.syncPulse := rfl
@[simp] theorem respond_txFullLatch (r : Byte) (s : State) : (s.respond r).txFullLatch = s.txFullLatch := rfl
@[simp] theorem respond_cs (r : Byte) (s : State) : (s.respond r).cs = s.cs := rfl
@[simp] theorem respond_gpio (r : Byte) (s : State) : (s.respond r).gpio = s.gpio := rfl
@[simp] theorem respond_rssiTop (r : Byte) (s : State) : (s.respond r).rssiTop = s.rssiTop := rfl
@[simp] theorem respond_lqi (r : Byte) (s : State) : (s.respond r).lqi = s.lqi := rfl
@[simp] theorem respond_lastCrcOk (r : Byte) (s : State) : (s.respond r).lastCrcOk = s.lastCrcOk := rfl
@[simp] theorem respond_refused (r : Byte) (s : State) : (s.respond r).refused = s.refused := rfl
@[simp] theorem respond_refusedReason (r : Byte) (s : State) : (s.respond r).refusedReason = s.refusedReason := rfl
@[simp] theorem respond_resp (r : Byte) (s : State) : (s.respond r).resp = some r := rfl
@[simp] theorem respond_out (r : Byte) (s : State) : (s.respond r).out = s.out := rfl
@[simp] theorem respond_input (r : Byte) (s : State) : (s.respond r).input = s.input := rfl
@[simp] theorem respond_draws (r : Byte) (s : State) : (s.respond r).draws = s.draws := rfl
@[simp] theorem respond_cfg (r : Byte) (s : State) : (s.respond r).cfg = s.cfg := rfl

@[simp] theorem beginEvent_mode (s : State) : (s.beginEvent).mode = s.mode := rfl
@[simp] theorem beginEvent_bus (s : State) : (s.beginEvent).bus = s.bus := rfl
@[simp] theorem beginEvent_desc (s : State) : (s.beginEvent).desc = s.desc := rfl
@[simp] theorem beginEvent_bank (s : State) : (s.beginEvent).bank = s.bank := rfl
@[simp] theorem beginEvent_activePoly (s : State) : (s.beginEvent).activePoly = s.activePoly := rfl
@[simp] theorem beginEvent_activeSeed (s : State) : (s.beginEvent).activeSeed = s.activeSeed := rfl
@[simp] theorem beginEvent_rxFifo (s : State) : (s.beginEvent).rxFifo = s.rxFifo := rfl
@[simp] theorem beginEvent_txFifo (s : State) : (s.beginEvent).txFifo = s.txFifo := rfl
@[simp] theorem beginEvent_pending (s : State) : (s.beginEvent).pending = s.pending := rfl
@[simp] theorem beginEvent_syncPulse (s : State) : (s.beginEvent).syncPulse = s.syncPulse := rfl
@[simp] theorem beginEvent_txFullLatch (s : State) : (s.beginEvent).txFullLatch = s.txFullLatch := rfl
@[simp] theorem beginEvent_cs (s : State) : (s.beginEvent).cs = s.cs := rfl
@[simp] theorem beginEvent_gpio (s : State) : (s.beginEvent).gpio = s.gpio := rfl
@[simp] theorem beginEvent_rssiTop (s : State) : (s.beginEvent).rssiTop = s.rssiTop := rfl
@[simp] theorem beginEvent_lqi (s : State) : (s.beginEvent).lqi = s.lqi := rfl
@[simp] theorem beginEvent_lastCrcOk (s : State) : (s.beginEvent).lastCrcOk = s.lastCrcOk := rfl
@[simp] theorem beginEvent_refused (s : State) : (s.beginEvent).refused = s.refused := rfl
@[simp] theorem beginEvent_refusedReason (s : State) : (s.beginEvent).refusedReason = s.refusedReason := rfl
@[simp] theorem beginEvent_resp (s : State) : (s.beginEvent).resp = none := rfl
@[simp] theorem beginEvent_out (s : State) : (s.beginEvent).out = [] := rfl
@[simp] theorem beginEvent_input (s : State) : (s.beginEvent).input = s.input := rfl
@[simp] theorem beginEvent_draws (s : State) : (s.beginEvent).draws = s.draws := rfl
@[simp] theorem beginEvent_cfg (s : State) : (s.beginEvent).cfg = s.cfg := rfl

@[simp] theorem setFifo_mode (q : Fifo) (l : List Byte) (s : State) : (s.setFifo q l).mode = s.mode := by cases q <;> rfl
@[simp] theorem setFifo_bus (q : Fifo) (l : List Byte) (s : State) : (s.setFifo q l).bus = s.bus := by cases q <;> rfl
@[simp] theorem setFifo_desc (q : Fifo) (l : List Byte) (s : State) : (s.setFifo q l).desc = s.desc := by cases q <;> rfl
@[simp] theorem setFifo_bank (q : Fifo) (l : List Byte) (s : State) : (s.setFifo q l).bank = s.bank := by cases q <;> rfl
@[simp] theorem setFifo_activePoly (q : Fifo) (l : List Byte) (s : State) : (s.setFifo q l).activePoly = s.activePoly := by cases q <;> rfl
@[simp] theorem setFifo_activeSeed (q : Fifo) (l : List Byte) (s : State) : (s.setFifo q l).activeSeed = s.activeSeed := by cases q <;> rfl
@[simp] theorem setFifo_pending (q : Fifo) (l : List Byte) (s : State) : (s.setFifo q l).pending = s.pending := by cases q <;> rfl
@[simp] theorem setFifo_syncPulse (q : Fifo) (l : List Byte) (s : State) : (s.setFifo q l).syncPulse = s.syncPulse := by cases q <;> rfl
@[simp] theorem setFifo_txFullLatch (q : Fifo) (l : List Byte) (s : State) : (s.setFifo q l).txFullLatch = s.txFullLatch := by cases q <;> rfl
@[simp] theorem setFifo_cs (q : Fifo) (l : List Byte) (s : State) : (s.setFifo q l).cs = s.cs := by cases q <;> rfl
@[simp] theorem setFifo_gpio (q : Fifo) (l : List Byte) (s : State) : (s.setFifo q l).gpio = s.gpio := by cases q <;> rfl
@[simp] theorem setFifo_rssiTop (q : Fifo) (l : List Byte) (s : State) : (s.setFifo q l).rssiTop = s.rssiTop := by cases q <;> rfl
@[simp] theorem setFifo_lqi (q : Fifo) (l : List Byte) (s : State) : (s.setFifo q l).lqi = s.lqi := by cases q <;> rfl
@[simp] theorem setFifo_lastCrcOk (q : Fifo) (l : List Byte) (s : State) : (s.setFifo q l).lastCrcOk = s.lastCrcOk := by cases q <;> rfl
@[simp] theorem setFifo_refused (q : Fifo) (l : List Byte) (s : State) : (s.setFifo q l).refused = s.refused := by cases q <;> rfl
@[simp] theorem setFifo_refusedReason (q : Fifo) (l : List Byte) (s : State) : (s.setFifo q l).refusedReason = s.refusedReason := by cases q <;> rfl
@[simp] theorem setFifo_resp (q : Fifo) (l : List Byte) (s : State) : (s.setFifo q l).resp = s.resp := by cases q <;> rfl
@[simp] theorem setFifo_out (q : Fifo) (l : List Byte) (s : State) : (s.setFifo q l).out = s.out := by cases q <;> rfl
@[simp] theorem setFifo_input (q : Fifo) (l : List Byte) (s : State) : (s.setFifo q l).input = s.input := by cases q <;> rfl
@[simp] theorem setFifo_draws (q : Fifo) (l : List Byte) (s : State) : (s.setFifo q l).draws = s.draws := by cases q <;> rfl
@[simp] theorem setFifo_cfg (q : Fifo) (l : List Byte) (s : State) : (s.setFifo q l).cfg = s.cfg := by cases q <;> rfl

@[simp] theorem setCell_mode (sp : Space) (a v : Byte) (s : State) : (s.setCell sp a v).mode = s.mode := rfl
@[simp] theorem setCell_bus (sp : Space) (a v : Byte) (s : State) : (s.setCell sp a v).bus = s.bus := rfl
@[simp] theorem setCell_desc (sp : Space) (a v : Byte) (s : State) : (s.setCell sp a v).desc = s.desc := rfl
@[simp] theorem setCell_bank (sp : Space) (a v : Byte) (s : State) : (s.setCell sp a v).bank = Memory.write s.cfg (cellKey sp a) v s.bank := rfl
@[simp] theorem setCell_activePoly (sp : Space) (a v : Byte) (s : State) : (s.setCell sp a v).activePoly = s.activePoly := rfl
@[simp] theorem setCell_activeSeed (sp : Space) (a v : Byte) (s : State) : (s.setCell sp a v).activeSeed = s.activeSeed := rfl
@[simp] theorem setCell_rxFifo (sp : Space) (a v : Byte) (s : State) : (s.setCell sp a v).rxFifo = s.rxFifo := rfl
@[simp] theorem setCell_txFifo (sp : Space) (a v : Byte) (s : State) : (s.setCell sp a v).txFifo = s.txFifo := rfl
@[simp] theorem setCell_pending (sp : Space) (a v : Byte) (s : State) : (s.setCell sp a v).pending = s.pending := rfl
@[simp] theorem setCell_syncPulse (sp : Space) (a v : Byte) (s : State) : (s.setCell sp a v).syncPulse = s.syncPulse := rfl
@[simp] theorem setCell_txFullLatch (sp : Space) (a v : Byte) (s : State) : (s.setCell sp a v).txFullLatch = s.txFullLatch := rfl
@[simp] theorem setCell_cs (sp : Space) (a v : Byte) (s : State) : (s.setCell sp a v).cs = s.cs := rfl
@[simp] theorem setCell_gpio (sp : Space) (a v : Byte) (s : State) : (s.setCell sp a v).gpio = s.gpio := rfl
@[simp] theorem setCell_rssiTop (sp : Space) (a v : Byte) (s : State) : (s.setCell sp a v).rssiTop = s.rssiTop := rfl
@[simp] theorem setCell_lqi (sp : Space) (a v : Byte) (s : State) : (s.setCell sp a v).lqi = s.lqi := rfl
@[simp] theorem setCell_lastCrcOk (sp : Space) (a v : Byte) (s : State) : (s.setCell sp a v).lastCrcOk = s.lastCrcOk := rfl
@[simp] theorem setCell_refused (sp : Space) (a v : Byte) (s : State) : (s.setCell sp a v).refused = s.refused := rfl
@[simp] theorem setCell_refusedReason (sp : Space) (a v : Byte) (s : State) : (s.setCell sp a v).refusedReason = s.refusedReason := rfl
@[simp] theorem setCell_resp (sp : Space) (a v : Byte) (s : State) : (s.setCell sp a v).resp = s.resp := rfl
@[simp] theorem setCell_out (sp : Space) (a v : Byte) (s : State) : (s.setCell sp a v).out = s.out := rfl
@[simp] theorem setCell_input (sp : Space) (a v : Byte) (s : State) : (s.setCell sp a v).input = s.input := rfl
@[simp] theorem setCell_draws (sp : Space) (a v : Byte) (s : State) : (s.setCell sp a v).draws = s.draws := rfl
@[simp] theorem setCell_cfg (sp : Space) (a v : Byte) (s : State) : (s.setCell sp a v).cfg = s.cfg := rfl

@[simp] theorem setCrcPair_mode (p : CrcPair) (s : State) : (s.setCrcPair p).mode = s.mode := rfl
@[simp] theorem setCrcPair_bus (p : CrcPair) (s : State) : (s.setCrcPair p).bus = s.bus := rfl
@[simp] theorem setCrcPair_desc (p : CrcPair) (s : State) : (s.setCrcPair p).desc = s.desc := rfl
@[simp] theorem setCrcPair_bank (p : CrcPair) (s : State) : (s.setCrcPair p).bank = s.bank := rfl
@[simp] theorem setCrcPair_activePoly (p : CrcPair) (s : State) : (s.setCrcPair p).activePoly = p.poly := rfl
@[simp] theorem setCrcPair_activeSeed (p : CrcPair) (s : State) : (s.setCrcPair p).activeSeed = p.seed := rfl
@[simp] theorem setCrcPair_rxFifo (p : CrcPair) (s : State) : (s.setCrcPair p).rxFifo = s.rxFifo := rfl
@[simp] theorem setCrcPair_txFifo (p : CrcPair) (s : State) : (s.setCrcPair p).txFifo = s.txFifo := rfl
@[simp] theorem setCrcPair_pending (p : CrcPair) (s : State) : (s.setCrcPair p).pending = s.pending := rfl
@[simp] theorem setCrcPair_syncPulse (p : CrcPair) (s : State) : (s.setCrcPair p).syncPulse = s.syncPulse := rfl
@[simp] theorem setCrcPair_txFullLatch (p : CrcPair) (s : State) : (s.setCrcPair p).txFullLatch = s.txFullLatch := rfl
@[simp] theorem setCrcPair_cs (p : CrcPair) (s : State) : (s.setCrcPair p).cs = s.cs := rfl
@[simp] theorem setCrcPair_gpio (p : CrcPair) (s : State) : (s.setCrcPair p).gpio = s.gpio := rfl
@[simp] theorem setCrcPair_rssiTop (p : CrcPair) (s : State) : (s.setCrcPair p).rssiTop = s.rssiTop := rfl
@[simp] theorem setCrcPair_lqi (p : CrcPair) (s : State) : (s.setCrcPair p).lqi = s.lqi := rfl
@[simp] theorem setCrcPair_lastCrcOk (p : CrcPair) (s : State) : (s.setCrcPair p).lastCrcOk = s.lastCrcOk := rfl
@[simp] theorem setCrcPair_refused (p : CrcPair) (s : State) : (s.setCrcPair p).refused = s.refused := rfl
@[simp] theorem setCrcPair_refusedReason (p : CrcPair) (s : State) : (s.setCrcPair p).refusedReason = s.refusedReason := rfl
@[simp] theorem setCrcPair_resp (p : CrcPair) (s : State) : (s.setCrcPair p).resp = s.resp := rfl
@[simp] theorem setCrcPair_out (p : CrcPair) (s : State) : (s.setCrcPair p).out = s.out := rfl
@[simp] theorem setCrcPair_input (p : CrcPair) (s : State) : (s.setCrcPair p).input = s.input := rfl
@[simp] theorem setCrcPair_draws (p : CrcPair) (s : State) : (s.setCrcPair p).draws = s.draws := rfl
@[simp] theorem setCrcPair_cfg (p : CrcPair) (s : State) : (s.setCrcPair p).cfg = s.cfg := rfl

@[simp] theorem driveLine_mode (i : Line) (v : Bool) (s : State) : (s.driveLine i v).mode = s.mode := rfl
@[simp] theorem driveLine_bus (i : Line) (v : Bool) (s : State) : (s.driveLine i v).bus = s.bus := rfl
@[simp] theorem driveLine_desc (i : Line) (v : Bool) (s : State) : (s.driveLine i v).desc = s.desc := rfl
@[simp] theorem driveLine_bank (i : Line) (v : Bool) (s : State) : (s.driveLine i v).bank = s.bank := rfl
@[simp] theorem driveLine_activePoly (i : Line) (v : Bool) (s : State) : (s.driveLine i v).activePoly = s.activePoly := rfl
@[simp] theorem driveLine_activeSeed (i : Line) (v : Bool) (s : State) : (s.driveLine i v).activeSeed = s.activeSeed := rfl
@[simp] theorem driveLine_rxFifo (i : Line) (v : Bool) (s : State) : (s.driveLine i v).rxFifo = s.rxFifo := rfl
@[simp] theorem driveLine_txFifo (i : Line) (v : Bool) (s : State) : (s.driveLine i v).txFifo = s.txFifo := rfl
@[simp] theorem driveLine_pending (i : Line) (v : Bool) (s : State) : (s.driveLine i v).pending = s.pending := rfl
@[simp] theorem driveLine_syncPulse (i : Line) (v : Bool) (s : State) : (s.driveLine i v).syncPulse = s.syncPulse := rfl
@[simp] theorem driveLine_txFullLatch (i : Line) (v : Bool) (s : State) : (s.driveLine i v).txFullLatch = s.txFullLatch := rfl
@[simp] theorem driveLine_cs (i : Line) (v : Bool) (s : State) : (s.driveLine i v).cs = s.cs := rfl
@[simp] theorem driveLine_gpio (i : Line) (v : Bool) (s : State) : (s.driveLine i v).gpio = s.gpio.set i (invLevel s i v) := rfl
@[simp] theorem driveLine_rssiTop (i : Line) (v : Bool) (s : State) : (s.driveLine i v).rssiTop = s.rssiTop := rfl
@[simp] theorem driveLine_lqi (i : Line) (v : Bool) (s : State) : (s.driveLine i v).lqi = s.lqi := rfl
@[simp] theorem driveLine_lastCrcOk (i : Line) (v : Bool) (s : State) : (s.driveLine i v).lastCrcOk = s.lastCrcOk := rfl
@[simp] theorem driveLine_refused (i : Line) (v : Bool) (s : State) : (s.driveLine i v).refused = s.refused := rfl
@[simp] theorem driveLine_refusedReason (i : Line) (v : Bool) (s : State) : (s.driveLine i v).refusedReason = s.refusedReason := rfl
@[simp] theorem driveLine_resp (i : Line) (v : Bool) (s : State) : (s.driveLine i v).resp = s.resp := rfl
@[simp] theorem driveLine_out (i : Line) (v : Bool) (s : State) : (s.driveLine i v).out = s.out := rfl
@[simp] theorem driveLine_input (i : Line) (v : Bool) (s : State) : (s.driveLine i v).input = s.input := rfl
@[simp] theorem driveLine_draws (i : Line) (v : Bool) (s : State) : (s.driveLine i v).draws = s.draws := rfl
@[simp] theorem driveLine_cfg (i : Line) (v : Bool) (s : State) : (s.driveLine i v).cfg = s.cfg := rfl

@[simp] theorem refreshMiso_mode (s : State) : (refreshMiso s).mode = s.mode := rfl
@[simp] theorem refreshMiso_bus (s : State) : (refreshMiso s).bus = s.bus := rfl
@[simp] theorem refreshMiso_desc (s : State) : (refreshMiso s).desc = s.desc := rfl
@[simp] theorem refreshMiso_bank (s : State) : (refreshMiso s).bank = s.bank := rfl
@[simp] theorem refreshMiso_activePoly (s : State) : (refreshMiso s).activePoly = s.activePoly := rfl
@[simp] theorem refreshMiso_activeSeed (s : State) : (refreshMiso s).activeSeed = s.activeSeed := rfl
@[simp] theorem refreshMiso_rxFifo (s : State) : (refreshMiso s).rxFifo = s.rxFifo := rfl
@[simp] theorem refreshMiso_txFifo (s : State) : (refreshMiso s).txFifo = s.txFifo := rfl
@[simp] theorem refreshMiso_pending (s : State) : (refreshMiso s).pending = s.pending := rfl
@[simp] theorem refreshMiso_syncPulse (s : State) : (refreshMiso s).syncPulse = 0 := rfl
@[simp] theorem refreshMiso_txFullLatch (s : State) : (refreshMiso s).txFullLatch = s.txFullLatch := rfl
@[simp] theorem refreshMiso_cs (s : State) : (refreshMiso s).cs = s.cs := rfl
@[simp] theorem refreshMiso_gpio (s : State) : (refreshMiso s).gpio = { s.gpio with miso := !s.cs } := rfl
@[simp] theorem refreshMiso_rssiTop (s : State) : (refreshMiso s).rssiTop = s.rssiTop := rfl
@[simp] theorem refreshMiso_lqi (s : State) : (refreshMiso s).lqi = s.lqi := rfl
@[simp] theorem refreshMiso_lastCrcOk (s : State) : (refreshMiso s).lastCrcOk = s.lastCrcOk := rfl
@[simp] theorem refreshMiso_refused (s : State) : (refreshMiso s).refused = s.refused := rfl
@[simp] theorem refreshMiso_refusedReason (s : State) : (refreshMiso s).refusedReason = s.refusedReason := rfl
@[simp] theorem refreshMiso_resp (s : State) : (refreshMiso s).resp = s.resp := rfl
@[simp] theorem refreshMiso_out (s : State) : (refreshMiso s).out = s.out := rfl
@[simp] theorem refreshMiso_input (s : State) : (refreshMiso s).input = s.input := rfl
@[simp] theorem refreshMiso_draws (s : State) : (refreshMiso s).draws = s.draws := rfl
@[simp] theorem refreshMiso_cfg (s : State) : (refreshMiso s).cfg = s.cfg := rfl

@[simp] theorem drawSignal_mode (s : State) : (drawSignal s).mode = s.mode := rfl
@[simp] theorem drawSignal_bus (s : State) : (drawSignal s).bus = s.bus := rfl
@[simp] theorem drawSignal_desc (s : State) : (drawSignal s).desc = s.desc := rfl
@[simp] theorem drawSignal_bank (s : State) : (drawSignal s).bank = s.bank := rfl
@[simp] theorem drawSignal_activePoly (s : State) : (drawSignal s).activePoly = s.activePoly := rfl
@[simp] theorem drawSignal_activeSeed (s : State) : (drawSignal s).activeSeed = s.activeSeed := rfl
@[simp] theorem drawSignal_rxFifo (s : State) : (drawSignal s).rxFifo = s.rxFifo := rfl
@[simp] theorem drawSignal_txFifo (s : State) : (drawSignal s).txFifo = s.txFifo := rfl
@[simp] theorem drawSignal_pending (s : State) : (drawSignal s).pending = s.pending := rfl
@[simp] theorem drawSignal_syncPulse (s : State) : (drawSignal s).syncPulse = s.syncPulse := rfl
@[simp] theorem drawSignal_txFullLatch (s : State) : (drawSignal s).txFullLatch = s.txFullLatch := rfl
@[simp] theorem drawSignal_cs (s : State) : (drawSignal s).cs = s.cs := rfl
@[simp] theorem drawSignal_gpio (s : State) : (drawSignal s).gpio = s.gpio := rfl
@[simp] theorem drawSignal_rssiTop (s : State) : (drawSignal s).rssiTop = Config.freeRssi s.draws := rfl
@[simp] theorem drawSignal_lqi (s : State) : (drawSignal s).lqi = Config.freeLqi s.draws := rfl
@[simp] theorem drawSignal_lastCrcOk (s : State) : (drawSignal s).lastCrcOk = s.lastCrcOk := rfl
@[simp] theorem drawSignal_refused (s : State) : (drawSignal s).refused = s.refused := rfl
@[simp] theorem drawSignal_refusedReason (s : State) : (drawSignal s).refusedReason = s.refusedReason := rfl
@[simp] theorem drawSignal_resp (s : State) : (drawSignal s).resp = s.resp := rfl
@[simp] theorem drawSignal_out (s : State) : (drawSignal s).out = s.out := rfl
@[simp] theorem drawSignal_input (s : State) : (drawSignal s).input = s.input := rfl
@[simp] theorem drawSignal_draws (s : State) : (drawSignal s).draws = s.draws + 1 := rfl
@[simp] theorem drawSignal_cfg (s : State) : (drawSignal s).cfg = s.cfg := rfl

@[simp] theorem setFifo_rx_rxFifo (l : List Byte) (s : State) : (s.setFifo .rx l).rxFifo = l := rfl
@[simp] theorem setFifo_rx_txFifo (l : List Byte) (s : State) : (s.setFifo .rx l).txFifo = s.txFifo := rfl
@[simp] theorem setFifo_tx_rxFifo (l : List Byte) (s : State) : (s.setFifo .tx l).rxFifo = s.rxFifo := rfl
@[simp] theorem setFifo_tx_txFifo (l : List Byte) (s : State) : (s.setFifo .tx l).txFifo = l := rfl
@[simp] theorem fifo_rx (s : State) : s.fifo .rx = s.rxFifo := rfl
@[simp] theorem fifo_tx (s : State) : s.fifo .tx = s.txFifo := rfl

/-- The register fields are read from the configuration and the bank alone. -/
theorem field_congr {s t : State} (hc : s.cfg = t.cfg) (hb : s.bank = t.bank) (p : FieldPos) (w : Nat) :
    s.field p w = t.field p w := by
  simp [State.field, hc, hb]

theorem cell_congr {s t : State} (hc : s.cfg = t.cfg) (hb : s.bank = t.bank) (sp : Space) (a : Byte) :
    s.cell sp a = t.cell sp a := by
  simp [State.cell, hc, hb]

theorem crcAutoflush_congr {s t : State} (hc : s.cfg = t.cfg) (hb : s.bank = t.bank) : crcAutoflush s = crcAutoflush t := by
  simp [crcAutoflush, State.flag, field_congr hc hb, hc]

theorem fifoThr_congr {s t : State} (hc : s.cfg = t.cfg) (hb : s.bank = t.bank) : fifoThr s = fifoThr t := by
  simp [fifoThr, field_congr hc hb, hc]

theorem deviceAddr_congr {s t : State} (hc : s.cfg = t.cfg) (hb : s.bank = t.bank) : deviceAddr s = deviceAddr t := by
  simp [deviceAddr, field_congr hc hb, hc]

theorem gMode_congr {s t : State} (hc : s.cfg = t.cfg) (hb : s.bank = t.bank) : gMode s = gMode t := by
  simp [gMode, State.flag, field_congr hc hb, hc]

theorem addrCheckCfg_congr {s t : State} (hc : s.cfg = t.cfg) (hb : s.bank = t.bank) : addrCheckCfg s = addrCheckCfg t := by
  simp [addrCheckCfg, field_congr hc hb, hc]

theorem crcCfg_congr {s t : State} (hc : s.cfg = t.cfg) (hb : s.bank = t.bank) : crcCfg s = crcCfg t := by
  simp [crcCfg, field_congr hc hb, hc]

theorem appendStatus_congr {s t : State} (hc : s.cfg = t.cfg) (hb : s.bank = t.bank) : appendStatus s = appendStatus t := by
  simp [appendStatus, State.flag, field_congr hc hb, hc]

theorem lengthConfig_congr {s t : State} (hc : s.cfg = t.cfg) (hb : s.bank = t.bank) : lengthConfig s = lengthConfig t := by
  simp [lengthConfig, field_congr hc hb, hc]

theorem rxoffMode_congr {s t : State} (hc : s.cfg = t.cfg) (hb : s.bank = t.bank) : rxoffMode s = rxoffMode t := by
  simp [rxoffMode, field_congr hc hb, hc]

theorem txoffMode_congr {s t : State} (hc : s.cfg = t.cfg) (hb : s.bank = t.bank) : txoffMode s = txoffMode t := by
  simp [txoffMode, field_congr hc hb, hc]

theorem termOnBadPacket_congr {s t : State} (hc : s.cfg = t.cfg) (hb : s.bank = t.bank) : termOnBadPacket s = termOnBadPacket t := by
  simp [termOnBadPacket, State.flag, field_congr hc hb, hc]

theorem packetLength_congr {s t : State} (hc : s.cfg = t.cfg) (hb : s.bank = t.bank) : packetLength s = packetLength t := by
  simp [packetLength, field_congr hc hb, hc]

theorem crcEnabled_congr {s t : State} (hc : s.cfg = t.cfg) (hb : s.bank = t.bank) : crcEnabled s = crcEnabled t := by
  simp [crcEnabled, crcCfg, field_congr hc hb, hc]

theorem txThreshold_congr {s t : State} (hc : s.cfg = t.cfg) (hb : s.bank = t.bank) : txThreshold s = txThreshold t := by
  simp [txThreshold, fifoThr, field_congr hc hb, hc]

theorem lineRole_congr {s t : State} (hc : s.cfg = t.cfg) (hb : s.bank = t.bank) (i : Line) :
    lineRole s i = lineRole t i := by
  simp [lineRole, roleCode, iocfg, field_congr hc hb, hc]

theorem invLevel_congr {s t : State} (hc : s.cfg = t.cfg) (hb : s.bank = t.bank) (i : Line) (v : Bool) :
    invLevel s i v = invLevel t i v := by
  simp [invLevel, invBit, State.flag, iocfg, field_congr hc hb, hc]

theorem fcsLen_congr {s t : State} (hc : s.cfg = t.cfg) (hb : s.bank = t.bank) (h : Byte) :
    fcsLen s h = fcsLen t h := by
  simp [fcsLen, fcsTypeBit, crcEnabled_congr hc hb, gMode_congr hc hb, hc]

theorem fcsBytes_congr {s t : State} (hc : s.cfg = t.cfg) (hp : s.activePoly = t.activePoly)
    (hs : s.activeSeed = t.activeSeed) (k : Nat) (data : List Byte) : fcsBytes s k data = fcsBytes t k data := by
  simp [fcsBytes, hc, hp, hs]

theorem crcCheck_congr {s t : State} (hc : s.cfg = t.cfg) (hb : s.bank = t.bank) (hp : s.activePoly = t.activePoly)
    (hs : s.activeSeed = t.activeSeed) (f : List Byte) : crcCheck s f = crcCheck t f := by
  simp [crcCheck, fcsLen_congr hc hb, fcsBytes_congr hc hp hs]

@[simp] theorem Gpio.set_miso (g : Gpio) (i : Line) (v : Bool) : (g.set i v).miso = g.miso := by
  cases i <;> rfl

theorem Gpio.get_set (g : Gpio) (i j : Line) (v : Bool) : (g.set i v).get j = if j = i then v else g.get j := by
  cases i <;> cases j <;> rfl

end Sys2Proof.Machine
end

