-- ==== Sys2Proof/Laws/Memory.lean ====
section
/-!
SUPPORT. The laws of the register bank as memory: a read after a write, and the canonical form kept by every operation.
-/

namespace Sys2Proof.Machine

/-- Two cells have one key only if they are one cell. -/
theorem cellKey_injective {sp sp' : Space} {a a' : Byte} (h : cellKey sp a = cellKey sp' a') : sp = sp' ∧ a = a' := by
  have h1 := a.isLt
  have h2 := a'.isLt
  cases sp <;> cases sp' <;> simp only [cellKey] at h
  · exact ⟨rfl, BitVec.eq_of_toNat_eq h⟩
  · omega
  · omega
  · exact ⟨rfl, BitVec.eq_of_toNat_eq (by omega)⟩

/-- Below every listed key, memory reads as after reset. -/
theorem read_of_all_lt (c : Config) (k : Nat) :
    ∀ m : Memory, m.all (fun e => decide (k < e.1)) = true → Memory.read c m k = resetOf c k
  | [], _ => rfl
  | (k', v) :: m, h => by
    simp only [List.all_cons, Bool.and_eq_true, decide_eq_true_eq] at h
    have : k' ≠ k := by omega
    simp [Memory.read, this, read_of_all_lt c k m h.2]

/-- A byte reads as it was written, and every other key reads as before. -/
theorem read_write (c : Config) (k k' : Nat) (v : Byte) :
    ∀ m : Memory, Memory.wf c m = true →
      Memory.read c (Memory.write c k v m) k' = if k' = k then v else Memory.read c m k'
  | [], _ => by
    by_cases hv : v = resetOf c k <;> by_cases hk : k' = k
    · simp [Memory.write, Memory.read, hv, hk]
    · simp [Memory.write, Memory.read, hv, hk]
    · simp [Memory.write, Memory.read, hv, hk]
    · have : k ≠ k' := fun e => hk e.symm
      simp [Memory.write, Memory.read, hv, hk, this]
  | (j, w) :: m, h => by
    simp only [Memory.wf, Bool.and_eq_true, bne_iff_ne, ne_eq] at h
    obtain ⟨⟨hw, hall⟩, hm⟩ := h
    have ih := read_write c k k' v m hm
    have hlt : ∀ i, i ≤ j → Memory.read c m i = resetOf c i := fun i hi =>
      read_of_all_lt c i m (by
        simp only [List.all_eq_true, decide_eq_true_eq] at hall ⊢
        intro e he; have := hall e he; omega)
    have hj := hlt j (Nat.le_refl j)
    by_cases h1 : k < j
    · have hk := hlt k (Nat.le_of_lt h1)
      have hne : j ≠ k := by omega
      by_cases hv : v = resetOf c k <;> by_cases hk' : k' = k
      · simp [Memory.write, Memory.read, h1, hv, hk', hne, hk]
      · simp [Memory.write, Memory.read, h1, hv, hk']
      · simp [Memory.write, Memory.read, h1, hv, hk']
      · have : k ≠ k' := fun e => hk' e.symm
        simp [Memory.write, Memory.read, h1, hv, hk', this]
    · by_cases h2 : k = j
      · subst h2
        by_cases hv : v = resetOf c k <;> by_cases hk' : k' = k
        · simp [Memory.write, hv, hk', hj]
        · have : k ≠ k' := fun e => hk' e.symm
          simp [Memory.write, Memory.read, hv, hk', this]
        · simp [Memory.write, Memory.read, hv, hk']
        · have : k ≠ k' := fun e => hk' e.symm
          simp [Memory.write, Memory.read, hv, hk', this]
      · by_cases hk' : k' = j
        · subst hk'
          have : k' ≠ k := fun e => h2 e.symm
          simp [Memory.write, Memory.read, h1, h2, this]
        · have : j ≠ k' := fun e => hk' e.symm
          simp [Memory.write, Memory.read, h1, h2, this, ih]

/-- What a write leaves in the list: an entry of before, or the entry written. -/
theorem mem_write {c : Config} {k : Nat} {v : Byte} {e : Host.Cell} :
    ∀ {m : Memory}, e ∈ Memory.write c k v m → e ∈ m ∨ e = (k, v)
  | [], h => by
    by_cases hv : v = resetOf c k <;> simp_all [Memory.write]
  | (j, w) :: m, h => by
    have ih := @mem_write c k v e m
    simp only [Memory.write] at h
    split at h
    · split at h <;> simp_all
      tauto
    · split at h
      · split at h <;> simp_all
        tauto
      · rcases List.mem_cons.mp h with h | h
        · simp [h]
        · rcases ih h with h | h <;> simp [h]

/-- A write keeps the canonical form. -/
theorem wf_write (c : Config) (k : Nat) (v : Byte) :
    ∀ m : Memory, Memory.wf c m = true → Memory.wf c (Memory.write c k v m) = true
  | [], _ => by
    by_cases hv : v = resetOf c k <;> simp [Memory.write, Memory.wf, hv]
  | (j, w) :: m, h => by
    have ih := wf_write c k v m
    have h' := h
    simp only [Memory.wf, Bool.and_eq_true, bne_iff_ne, ne_eq, List.all_eq_true, decide_eq_true_eq] at h
    obtain ⟨⟨hw, hall⟩, hm⟩ := h
    simp only [Memory.write]
    split
    · rename_i hkj
      split
      · exact h'
      · rename_i hv
        simp only [Memory.wf, Bool.and_eq_true, bne_iff_ne, ne_eq, List.all_eq_true, decide_eq_true_eq]
        refine ⟨⟨hv, fun e he => ?_⟩, ⟨hw, hall⟩, hm⟩
        rcases List.mem_cons.mp he with rfl | he
        · exact hkj
        · exact Nat.lt_trans hkj (hall e he)
    · split
      · rename_i _ hkj
        subst hkj
        split
        · exact hm
        · rename_i hv
          simp only [Memory.wf, Bool.and_eq_true, bne_iff_ne, ne_eq, List.all_eq_true, decide_eq_true_eq]
          exact ⟨⟨hv, hall⟩, hm⟩
      · rename_i h1 h2
        simp only [Memory.wf, Bool.and_eq_true, bne_iff_ne, ne_eq, List.all_eq_true, decide_eq_true_eq]
        refine ⟨⟨hw, fun e he => ?_⟩, ih hm⟩
        rcases mem_write he with he | rfl
        · exact hall e he
        · show j < k
          omega

/-- The memory after reset is canonical. -/
theorem wf_reset (c : Config) : Memory.wf c [] = true := rfl

/-- A cell reads as it was written, and every other cell as before. -/
theorem cell_setCell {s : State} (h : Memory.wf s.cfg s.bank = true) (sp sp' : Space) (a a' v : Byte) :
    (s.setCell sp a v).cell sp' a' = if sp' = sp ∧ a' = a then v else s.cell sp' a' := by
  simp only [State.cell, setCell_cfg, setCell_bank, read_write _ _ _ _ _ h]
  by_cases hk : cellKey sp' a' = cellKey sp a
  · obtain ⟨rfl, rfl⟩ := cellKey_injective hk
    simp
  · have : ¬(sp' = sp ∧ a' = a) := fun ⟨h1, h2⟩ => hk (by rw [h1, h2])
    simp [hk, this]

end Sys2Proof.Machine
end

