-- ==== Sys2Proof/Laws/Frames.lean ====
section
/-!
SUPPORT. What each shared operation leaves as it was, one simp lemma per field, and what it does to the rest. A proof about
an instruction cites these and unfolds none of the operations.
-/

set_option Elab.async false

namespace Sys2Proof.Machine

/-! UpdateTxFullLatch writes the latch (R315). -/

@[simp] theorem updateTxFullLatch_mode (s : State) : (updateTxFullLatch s).mode = s.mode := by
  unfold updateTxFullLatch; split <;> [rfl; (split <;> rfl)]

@[simp] theorem updateTxFullLatch_bus (s : State) : (updateTxFullLatch s).bus = s.bus := by
  unfold updateTxFullLatch; split <;> [rfl; (split <;> rfl)]

@[simp] theorem updateTxFullLatch_desc (s : State) : (updateTxFullLatch s).desc = s.desc := by
  unfold updateTxFullLatch; split <;> [rfl; (split <;> rfl)]

@[simp] theorem updateTxFullLatch_bank (s : State) : (updateTxFullLatch s).bank = s.bank := by
  unfold updateTxFullLatch; split <;> [rfl; (split <;> rfl)]

@[simp] theorem updateTxFullLatch_activePoly (s : State) : (updateTxFullLatch s).activePoly = s.activePoly := by
  unfold updateTxFullLatch; split <;> [rfl; (split <;> rfl)]

@[simp] theorem updateTxFullLatch_activeSeed (s : State) : (updateTxFullLatch s).activeSeed = s.activeSeed := by
  unfold updateTxFullLatch; split <;> [rfl; (split <;> rfl)]

@[simp] theorem updateTxFullLatch_rxFifo (s : State) : (updateTxFullLatch s).rxFifo = s.rxFifo := by
  unfold updateTxFullLatch; split <;> [rfl; (split <;> rfl)]

@[simp] theorem updateTxFullLatch_txFifo (s : State) : (updateTxFullLatch s).txFifo = s.txFifo := by
  unfold updateTxFullLatch; split <;> [rfl; (split <;> rfl)]

@[simp] theorem updateTxFullLatch_pending (s : State) : (updateTxFullLatch s).pending = s.pending := by
  unfold updateTxFullLatch; split <;> [rfl; (split <;> rfl)]

@[simp] theorem updateTxFullLatch_syncPulse (s : State) : (updateTxFullLatch s).syncPulse = s.syncPulse := by
  unfold updateTxFullLatch; split <;> [rfl; (split <;> rfl)]

@[simp] theorem updateTxFullLatch_cs (s : State) : (updateTxFullLatch s).cs = s.cs := by
  unfold updateTxFullLatch; split <;> [rfl; (split <;> rfl)]

@[simp] theorem updateTxFullLatch_gpio (s : State) : (updateTxFullLatch s).gpio = s.gpio := by
  unfold updateTxFullLatch; split <;> [rfl; (split <;> rfl)]

@[simp] theorem updateTxFullLatch_rssiTop (s : State) : (updateTxFullLatch s).rssiTop = s.rssiTop := by
  unfold updateTxFullLatch; split <;> [rfl; (split <;> rfl)]

@[simp] theorem updateTxFullLatch_lqi (s : State) : (updateTxFullLatch s).lqi = s.lqi := by
  unfold updateTxFullLatch; split <;> [rfl; (split <;> rfl)]

@[simp] theorem updateTxFullLatch_lastCrcOk (s : State) : (updateTxFullLatch s).lastCrcOk = s.lastCrcOk := by
  unfold updateTxFullLatch; split <;> [rfl; (split <;> rfl)]

@[simp] theorem updateTxFullLatch_refused (s : State) : (updateTxFullLatch s).refused = s.refused := by
  unfold updateTxFullLatch; split <;> [rfl; (split <;> rfl)]

@[simp] theorem updateTxFullLatch_refusedReason (s : State) : (updateTxFullLatch s).refusedReason = s.refusedReason := by
  unfold updateTxFullLatch; split <;> [rfl; (split <;> rfl)]

@[simp] theorem updateTxFullLatch_resp (s : State) : (updateTxFullLatch s).resp = s.resp := by
  unfold updateTxFullLatch; split <;> [rfl; (split <;> rfl)]

@[simp] theorem updateTxFullLatch_out (s : State) : (updateTxFullLatch s).out = s.out := by
  unfold updateTxFullLatch; split <;> [rfl; (split <;> rfl)]

@[simp] theorem updateTxFullLatch_input (s : State) : (updateTxFullLatch s).input = s.input := by
  unfold updateTxFullLatch; split <;> [rfl; (split <;> rfl)]

@[simp] theorem updateTxFullLatch_draws (s : State) : (updateTxFullLatch s).draws = s.draws := by
  unfold updateTxFullLatch; split <;> [rfl; (split <;> rfl)]

@[simp] theorem updateTxFullLatch_cfg (s : State) : (updateTxFullLatch s).cfg = s.cfg := by
  unfold updateTxFullLatch; split <;> [rfl; (split <;> rfl)]

/-! One line of Refresh writes the levels and the trace (R310). -/

@[simp] theorem refreshLine_mode (i : Line) (s : State) : (refreshLine i s).mode = s.mode := by
  simp only [refreshLine]; split <;> (split <;> simp)

@[simp] theorem refreshLine_bus (i : Line) (s : State) : (refreshLine i s).bus = s.bus := by
  simp only [refreshLine]; split <;> (split <;> simp)

@[simp] theorem refreshLine_desc (i : Line) (s : State) : (refreshLine i s).desc = s.desc := by
  simp only [refreshLine]; split <;> (split <;> simp)

@[simp] theorem refreshLine_bank (i : Line) (s : State) : (refreshLine i s).bank = s.bank := by
  simp only [refreshLine]; split <;> (split <;> simp)

@[simp] theorem refreshLine_activePoly (i : Line) (s : State) : (refreshLine i s).activePoly = s.activePoly := by
  simp only [refreshLine]; split <;> (split <;> simp)

@[simp] theorem refreshLine_activeSeed (i : Line) (s : State) : (refreshLine i s).activeSeed = s.activeSeed := by
  simp only [refreshLine]; split <;> (split <;> simp)

@[simp] theorem refreshLine_rxFifo (i : Line) (s : State) : (refreshLine i s).rxFifo = s.rxFifo := by
  simp only [refreshLine]; split <;> (split <;> simp)

@[simp] theorem refreshLine_txFifo (i : Line) (s : State) : (refreshLine i s).txFifo = s.txFifo := by
  simp only [refreshLine]; split <;> (split <;> simp)

@[simp] theorem refreshLine_pending (i : Line) (s : State) : (refreshLine i s).pending = s.pending := by
  simp only [refreshLine]; split <;> (split <;> simp)

@[simp] theorem refreshLine_syncPulse (i : Line) (s : State) : (refreshLine i s).syncPulse = s.syncPulse := by
  simp only [refreshLine]; split <;> (split <;> simp)

@[simp] theorem refreshLine_txFullLatch (i : Line) (s : State) : (refreshLine i s).txFullLatch = s.txFullLatch := by
  simp only [refreshLine]; split <;> (split <;> simp)

@[simp] theorem refreshLine_cs (i : Line) (s : State) : (refreshLine i s).cs = s.cs := by
  simp only [refreshLine]; split <;> (split <;> simp)

@[simp] theorem refreshLine_rssiTop (i : Line) (s : State) : (refreshLine i s).rssiTop = s.rssiTop := by
  simp only [refreshLine]; split <;> (split <;> simp)

@[simp] theorem refreshLine_lqi (i : Line) (s : State) : (refreshLine i s).lqi = s.lqi := by
  simp only [refreshLine]; split <;> (split <;> simp)

@[simp] theorem refreshLine_lastCrcOk (i : Line) (s : State) : (refreshLine i s).lastCrcOk = s.lastCrcOk := by
  simp only [refreshLine]; split <;> (split <;> simp)

@[simp] theorem refreshLine_refused (i : Line) (s : State) : (refreshLine i s).refused = s.refused := by
  simp only [refreshLine]; split <;> (split <;> simp)

@[simp] theorem refreshLine_refusedReason (i : Line) (s : State) : (refreshLine i s).refusedReason = s.refusedReason := by
  simp only [refreshLine]; split <;> (split <;> simp)

@[simp] theorem refreshLine_resp (i : Line) (s : State) : (refreshLine i s).resp = s.resp := by
  simp only [refreshLine]; split <;> (split <;> simp)

@[simp] theorem refreshLine_input (i : Line) (s : State) : (refreshLine i s).input = s.input := by
  simp only [refreshLine]; split <;> (split <;> simp)

@[simp] theorem refreshLine_draws (i : Line) (s : State) : (refreshLine i s).draws = s.draws := by
  simp only [refreshLine]; split <;> (split <;> simp)

@[simp] theorem refreshLine_cfg (i : Line) (s : State) : (refreshLine i s).cfg = s.cfg := by
  simp only [refreshLine]; split <;> (split <;> simp)

/-! Refresh writes the levels, the latch, the pulse count and the trace (R310). -/

@[simp] theorem refresh_mode (s : State) : (refresh s).mode = s.mode := by
  simp [refresh]

@[simp] theorem refresh_bus (s : State) : (refresh s).bus = s.bus := by
  simp [refresh]

@[simp] theorem refresh_desc (s : State) : (refresh s).desc = s.desc := by
  simp [refresh]

@[simp] theorem refresh_bank (s : State) : (refresh s).bank = s.bank := by
  simp [refresh]

@[simp] theorem refresh_activePoly (s : State) : (refresh s).activePoly = s.activePoly := by
  simp [refresh]

@[simp] theorem refresh_activeSeed (s : State) : (refresh s).activeSeed = s.activeSeed := by
  simp [refresh]

@[simp] theorem refresh_rxFifo (s : State) : (refresh s).rxFifo = s.rxFifo := by
  simp [refresh]

@[simp] theorem refresh_txFifo (s : State) : (refresh s).txFifo = s.txFifo := by
  simp [refresh]

@[simp] theorem refresh_pending (s : State) : (refresh s).pending = s.pending := by
  simp [refresh]

@[simp] theorem refresh_cs (s : State) : (refresh s).cs = s.cs := by
  simp [refresh]

@[simp] theorem refresh_rssiTop (s : State) : (refresh s).rssiTop = s.rssiTop := by
  simp [refresh]

@[simp] theorem refresh_lqi (s : State) : (refresh s).lqi = s.lqi := by
  simp [refresh]

@[simp] theorem refresh_lastCrcOk (s : State) : (refresh s).lastCrcOk = s.lastCrcOk := by
  simp [refresh]

@[simp] theorem refresh_refused (s : State) : (refresh s).refused = s.refused := by
  simp [refresh]

@[simp] theorem refresh_refusedReason (s : State) : (refresh s).refusedReason = s.refusedReason := by
  simp [refresh]

@[simp] theorem refresh_resp (s : State) : (refresh s).resp = s.resp := by
  simp [refresh]

@[simp] theorem refresh_input (s : State) : (refresh s).input = s.input := by
  simp [refresh]

@[simp] theorem refresh_draws (s : State) : (refresh s).draws = s.draws := by
  simp [refresh]

@[simp] theorem refresh_cfg (s : State) : (refresh s).cfg = s.cfg := by
  simp [refresh]

@[simp] theorem refresh_syncPulse (s : State) : (refresh s).syncPulse = 0 := rfl

@[simp] theorem refresh_miso (s : State) : (refresh s).gpio.miso = !s.cs := by
  simp [refresh]

@[simp] theorem refresh_txFullLatch (s : State) : (refresh s).txFullLatch = (updateTxFullLatch s).txFullLatch := by
  simp [refresh]

/-- Every level Refresh shows follows from the state alone, not from the pulse count. -/
theorem roleLevel_congr {s t : State} (hc : s.cfg = t.cfg) (hb : s.bank = t.bank) (hr : s.rxFifo = t.rxFifo)
    (ht : s.txFifo = t.txFifo) (hl : s.txFullLatch = t.txFullLatch) (hm : s.mode = t.mode) (r : GpioRole) :
    roleLevel s r = roleLevel t r := by
  cases r <;> simp [roleLevel, rxThr, txThr, txThreshold_congr hc hb, fifoThr_congr hc hb, hr, ht, hl, hm]

/-- What one line of Refresh does to the levels (R310, R320). -/
theorem refreshLine_gpio (i : Line) (s : State) :
    (refreshLine i s).gpio =
      match roleLevel s (lineRole s i) with
      | some v => s.gpio.set i (invLevel s i v)
      | none => s.gpio := by
  cases h : roleLevel s (lineRole s i) <;> simp only [refreshLine, h]
  · split <;> simp
  · split
    · simp only [driveLine_gpio, emit_gpio]
      rw [invLevel_congr (s := s.emit (.blink i)) (t := s) rfl rfl]
    · simp

/-! The pulse and its Refresh (R275, R297). -/

@[simp] theorem pulseSync_mode (s : State) : (pulseSync s).mode = s.mode := by
  simp [pulseSync]

@[simp] theorem pulseSync_bus (s : State) : (pulseSync s).bus = s.bus := by
  simp [pulseSync]

@[simp] theorem pulseSync_desc (s : State) : (pulseSync s).desc = s.desc := by
  simp [pulseSync]

@[simp] theorem pulseSync_bank (s : State) : (pulseSync s).bank = s.bank := by
  simp [pulseSync]

@[simp] theorem pulseSync_activePoly (s : State) : (pulseSync s).activePoly = s.activePoly := by
  simp [pulseSync]

@[simp] theorem pulseSync_activeSeed (s : State) : (pulseSync s).activeSeed = s.activeSeed := by
  simp [pulseSync]

@[simp] theorem pulseSync_rxFifo (s : State) : (pulseSync s).rxFifo = s.rxFifo := by
  simp [pulseSync]

@[simp] theorem pulseSync_txFifo (s : State) : (pulseSync s).txFifo = s.txFifo := by
  simp [pulseSync]

@[simp] theorem pulseSync_pending (s : State) : (pulseSync s).pending = s.pending := by
  simp [pulseSync]

@[simp] theorem pulseSync_cs (s : State) : (pulseSync s).cs = s.cs := by
  simp [pulseSync]

@[simp] theorem pulseSync_rssiTop (s : State) : (pulseSync s).rssiTop = s.rssiTop := by
  simp [pulseSync]

@[simp] theorem pulseSync_lqi (s : State) : (pulseSync s).lqi = s.lqi := by
  simp [pulseSync]

@[simp] theorem pulseSync_lastCrcOk (s : State) : (pulseSync s).lastCrcOk = s.lastCrcOk := by
  simp [pulseSync]

@[simp] theorem pulseSync_refused (s : State) : (pulseSync s).refused = s.refused := by
  simp [pulseSync]

@[simp] theorem pulseSync_refusedReason (s : State) : (pulseSync s).refusedReason = s.refusedReason := by
  simp [pulseSync]

@[simp] theorem pulseSync_resp (s : State) : (pulseSync s).resp = s.resp := by
  simp [pulseSync]

@[simp] theorem pulseSync_input (s : State) : (pulseSync s).input = s.input := by
  simp [pulseSync]

@[simp] theorem pulseSync_draws (s : State) : (pulseSync s).draws = s.draws := by
  simp [pulseSync]

@[simp] theorem pulseSync_cfg (s : State) : (pulseSync s).cfg = s.cfg := by
  simp [pulseSync]

@[simp] theorem pulseSync_syncPulse (s : State) : (pulseSync s).syncPulse = 0 := rfl

/-! Enqueue writes its FIFO and the trace (R87). -/

@[simp] theorem enqueue_mode (q : Fifo) (v : Byte) (s : State) : (enqueue q v s).mode = s.mode := by
  unfold enqueue; split <;> simp

@[simp] theorem enqueue_bus (q : Fifo) (v : Byte) (s : State) : (enqueue q v s).bus = s.bus := by
  unfold enqueue; split <;> simp

@[simp] theorem enqueue_desc (q : Fifo) (v : Byte) (s : State) : (enqueue q v s).desc = s.desc := by
  unfold enqueue; split <;> simp

@[simp] theorem enqueue_bank (q : Fifo) (v : Byte) (s : State) : (enqueue q v s).bank = s.bank := by
  unfold enqueue; split <;> simp

@[simp] theorem enqueue_activePoly (q : Fifo) (v : Byte) (s : State) : (enqueue q v s).activePoly = s.activePoly := by
  unfold enqueue; split <;> simp

@[simp] theorem enqueue_activeSeed (q : Fifo) (v : Byte) (s : State) : (enqueue q v s).activeSeed = s.activeSeed := by
  unfold enqueue; split <;> simp

@[simp] theorem enqueue_pending (q : Fifo) (v : Byte) (s : State) : (enqueue q v s).pending = s.pending := by
  unfold enqueue; split <;> simp

@[simp] theorem enqueue_syncPulse (q : Fifo) (v : Byte) (s : State) : (enqueue q v s).syncPulse = s.syncPulse := by
  unfold enqueue; split <;> simp

@[simp] theorem enqueue_txFullLatch (q : Fifo) (v : Byte) (s : State) : (enqueue q v s).txFullLatch = s.txFullLatch := by
  unfold enqueue; split <;> simp

@[simp] theorem enqueue_cs (q : Fifo) (v : Byte) (s : State) : (enqueue q v s).cs = s.cs := by
  unfold enqueue; split <;> simp

@[simp] theorem enqueue_gpio (q : Fifo) (v : Byte) (s : State) : (enqueue q v s).gpio = s.gpio := by
  unfold enqueue; split <;> simp

@[simp] theorem enqueue_rssiTop (q : Fifo) (v : Byte) (s : State) : (enqueue q v s).rssiTop = s.rssiTop := by
  unfold enqueue; split <;> simp

@[simp] theorem enqueue_lqi (q : Fifo) (v : Byte) (s : State) : (enqueue q v s).lqi = s.lqi := by
  unfold enqueue; split <;> simp

@[simp] theorem enqueue_lastCrcOk (q : Fifo) (v : Byte) (s : State) : (enqueue q v s).lastCrcOk = s.lastCrcOk := by
  unfold enqueue; split <;> simp

@[simp] theorem enqueue_refused (q : Fifo) (v : Byte) (s : State) : (enqueue q v s).refused = s.refused := by
  unfold enqueue; split <;> simp

@[simp] theorem enqueue_refusedReason (q : Fifo) (v : Byte) (s : State) : (enqueue q v s).refusedReason = s.refusedReason := by
  unfold enqueue; split <;> simp

@[simp] theorem enqueue_resp (q : Fifo) (v : Byte) (s : State) : (enqueue q v s).resp = s.resp := by
  unfold enqueue; split <;> simp

@[simp] theorem enqueue_input (q : Fifo) (v : Byte) (s : State) : (enqueue q v s).input = s.input := by
  unfold enqueue; split <;> simp

@[simp] theorem enqueue_draws (q : Fifo) (v : Byte) (s : State) : (enqueue q v s).draws = s.draws := by
  unfold enqueue; split <;> simp

@[simp] theorem enqueue_cfg (q : Fifo) (v : Byte) (s : State) : (enqueue q v s).cfg = s.cfg := by
  unfold enqueue; split <;> simp

/-- `Enqueue` into the RX FIFO: the byte at the tail, or lost when the FIFO is full (R87). -/
theorem enqueue_rx_rxFifo (v : Byte) (s : State) :
    (enqueue .rx v s).rxFifo = if s.rxFifo.length = s.cfg.fifoCapacity then s.rxFifo else s.rxFifo ++ [v] := by
  by_cases h : s.rxFifo.length = s.cfg.fifoCapacity <;> simp [enqueue, h]

/-- `Enqueue` into the TX FIFO (R87). -/
theorem enqueue_tx_txFifo (v : Byte) (s : State) :
    (enqueue .tx v s).txFifo = if s.txFifo.length = s.cfg.fifoCapacity then s.txFifo else s.txFifo ++ [v] := by
  by_cases h : s.txFifo.length = s.cfg.fifoCapacity <;> simp [enqueue, h]

@[simp] theorem enqueue_rx_txFifo (v : Byte) (s : State) : (enqueue .rx v s).txFifo = s.txFifo := by
  unfold enqueue
  split <;> simp

@[simp] theorem enqueue_tx_rxFifo (v : Byte) (s : State) : (enqueue .tx v s).rxFifo = s.rxFifo := by
  unfold enqueue
  split <;> simp

/-! The same for a run of bytes (R271). -/

@[simp] theorem enqueueAll_mode (q : Fifo) : ∀ (l : List Byte) (s : State), (enqueueAll q l s).mode = s.mode
  | [], _ => rfl
  | v :: l, s => by rw [enqueueAll, enqueueAll_mode q l, enqueue_mode]

@[simp] theorem enqueueAll_bus (q : Fifo) : ∀ (l : List Byte) (s : State), (enqueueAll q l s).bus = s.bus
  | [], _ => rfl
  | v :: l, s => by rw [enqueueAll, enqueueAll_bus q l, enqueue_bus]

@[simp] theorem enqueueAll_desc (q : Fifo) : ∀ (l : List Byte) (s : State), (enqueueAll q l s).desc = s.desc
  | [], _ => rfl
  | v :: l, s => by rw [enqueueAll, enqueueAll_desc q l, enqueue_desc]

@[simp] theorem enqueueAll_bank (q : Fifo) : ∀ (l : List Byte) (s : State), (enqueueAll q l s).bank = s.bank
  | [], _ => rfl
  | v :: l, s => by rw [enqueueAll, enqueueAll_bank q l, enqueue_bank]

@[simp] theorem enqueueAll_activePoly (q : Fifo) : ∀ (l : List Byte) (s : State), (enqueueAll q l s).activePoly = s.activePoly
  | [], _ => rfl
  | v :: l, s => by rw [enqueueAll, enqueueAll_activePoly q l, enqueue_activePoly]

@[simp] theorem enqueueAll_activeSeed (q : Fifo) : ∀ (l : List Byte) (s : State), (enqueueAll q l s).activeSeed = s.activeSeed
  | [], _ => rfl
  | v :: l, s => by rw [enqueueAll, enqueueAll_activeSeed q l, enqueue_activeSeed]

@[simp] theorem enqueueAll_pending (q : Fifo) : ∀ (l : List Byte) (s : State), (enqueueAll q l s).pending = s.pending
  | [], _ => rfl
  | v :: l, s => by rw [enqueueAll, enqueueAll_pending q l, enqueue_pending]

@[simp] theorem enqueueAll_syncPulse (q : Fifo) : ∀ (l : List Byte) (s : State), (enqueueAll q l s).syncPulse = s.syncPulse
  | [], _ => rfl
  | v :: l, s => by rw [enqueueAll, enqueueAll_syncPulse q l, enqueue_syncPulse]

@[simp] theorem enqueueAll_txFullLatch (q : Fifo) : ∀ (l : List Byte) (s : State), (enqueueAll q l s).txFullLatch = s.txFullLatch
  | [], _ => rfl
  | v :: l, s => by rw [enqueueAll, enqueueAll_txFullLatch q l, enqueue_txFullLatch]

@[simp] theorem enqueueAll_cs (q : Fifo) : ∀ (l : List Byte) (s : State), (enqueueAll q l s).cs = s.cs
  | [], _ => rfl
  | v :: l, s => by rw [enqueueAll, enqueueAll_cs q l, enqueue_cs]

@[simp] theorem enqueueAll_gpio (q : Fifo) : ∀ (l : List Byte) (s : State), (enqueueAll q l s).gpio = s.gpio
  | [], _ => rfl
  | v :: l, s => by rw [enqueueAll, enqueueAll_gpio q l, enqueue_gpio]

@[simp] theorem enqueueAll_rssiTop (q : Fifo) : ∀ (l : List Byte) (s : State), (enqueueAll q l s).rssiTop = s.rssiTop
  | [], _ => rfl
  | v :: l, s => by rw [enqueueAll, enqueueAll_rssiTop q l, enqueue_rssiTop]

@[simp] theorem enqueueAll_lqi (q : Fifo) : ∀ (l : List Byte) (s : State), (enqueueAll q l s).lqi = s.lqi
  | [], _ => rfl
  | v :: l, s => by rw [enqueueAll, enqueueAll_lqi q l, enqueue_lqi]

@[simp] theorem enqueueAll_lastCrcOk (q : Fifo) : ∀ (l : List Byte) (s : State), (enqueueAll q l s).lastCrcOk = s.lastCrcOk
  | [], _ => rfl
  | v :: l, s => by rw [enqueueAll, enqueueAll_lastCrcOk q l, enqueue_lastCrcOk]

@[simp] theorem enqueueAll_refused (q : Fifo) : ∀ (l : List Byte) (s : State), (enqueueAll q l s).refused = s.refused
  | [], _ => rfl
  | v :: l, s => by rw [enqueueAll, enqueueAll_refused q l, enqueue_refused]

@[simp] theorem enqueueAll_refusedReason (q : Fifo) : ∀ (l : List Byte) (s : State), (enqueueAll q l s).refusedReason = s.refusedReason
  | [], _ => rfl
  | v :: l, s => by rw [enqueueAll, enqueueAll_refusedReason q l, enqueue_refusedReason]

@[simp] theorem enqueueAll_resp (q : Fifo) : ∀ (l : List Byte) (s : State), (enqueueAll q l s).resp = s.resp
  | [], _ => rfl
  | v :: l, s => by rw [enqueueAll, enqueueAll_resp q l, enqueue_resp]

@[simp] theorem enqueueAll_input (q : Fifo) : ∀ (l : List Byte) (s : State), (enqueueAll q l s).input = s.input
  | [], _ => rfl
  | v :: l, s => by rw [enqueueAll, enqueueAll_input q l, enqueue_input]

@[simp] theorem enqueueAll_draws (q : Fifo) : ∀ (l : List Byte) (s : State), (enqueueAll q l s).draws = s.draws
  | [], _ => rfl
  | v :: l, s => by rw [enqueueAll, enqueueAll_draws q l, enqueue_draws]

@[simp] theorem enqueueAll_cfg (q : Fifo) : ∀ (l : List Byte) (s : State), (enqueueAll q l s).cfg = s.cfg
  | [], _ => rfl
  | v :: l, s => by rw [enqueueAll, enqueueAll_cfg q l, enqueue_cfg]

@[simp] theorem enqueueAll_rx_txFifo : ∀ (l : List Byte) (s : State), (enqueueAll .rx l s).txFifo = s.txFifo
  | [], _ => rfl
  | v :: l, s => by rw [enqueueAll, enqueueAll_rx_txFifo l, enqueue_rx_txFifo]

/-- A run of bytes fills the RX FIFO in order, and every byte past its capacity is lost (R87, R271). -/
theorem enqueueAll_rx_rxFifo : ∀ (l : List Byte) (s : State), s.rxFifo.length ≤ s.cfg.fifoCapacity →
    (enqueueAll .rx l s).rxFifo = (s.rxFifo ++ l).take s.cfg.fifoCapacity
  | [], s, h => by simp [enqueueAll, List.take_of_length_le h]
  | v :: l, s, h => by
    have hc : (enqueue .rx v s).cfg = s.cfg := by simp
    rw [enqueueAll, enqueueAll_rx_rxFifo l, enqueue_rx_rxFifo, hc]
    · split
      · rename_i hf
        rw [List.take_append_of_le_length (Nat.le_of_eq hf.symm), List.take_append_of_le_length (Nat.le_of_eq hf.symm)]
      · simp
    · rw [enqueue_rx_rxFifo, hc]
      split
      · exact h
      · simp only [List.length_append, List.length_cons, List.length_nil]
        omega

/-! Dequeue writes its FIFO and the trace (R88). -/

@[simp] theorem dequeue_mode (q : Fifo) (s : State) : (dequeue q s).2.mode = s.mode := by
  unfold dequeue; split <;> simp

@[simp] theorem dequeue_bus (q : Fifo) (s : State) : (dequeue q s).2.bus = s.bus := by
  unfold dequeue; split <;> simp

@[simp] theorem dequeue_desc (q : Fifo) (s : State) : (dequeue q s).2.desc = s.desc := by
  unfold dequeue; split <;> simp

@[simp] theorem dequeue_bank (q : Fifo) (s : State) : (dequeue q s).2.bank = s.bank := by
  unfold dequeue; split <;> simp

@[simp] theorem dequeue_activePoly (q : Fifo) (s : State) : (dequeue q s).2.activePoly = s.activePoly := by
  unfold dequeue; split <;> simp

@[simp] theorem dequeue_activeSeed (q : Fifo) (s : State) : (dequeue q s).2.activeSeed = s.activeSeed := by
  unfold dequeue; split <;> simp

@[simp] theorem dequeue_pending (q : Fifo) (s : State) : (dequeue q s).2.pending = s.pending := by
  unfold dequeue; split <;> simp

@[simp] theorem dequeue_syncPulse (q : Fifo) (s : State) : (dequeue q s).2.syncPulse = s.syncPulse := by
  unfold dequeue; split <;> simp

@[simp] theorem dequeue_txFullLatch (q : Fifo) (s : State) : (dequeue q s).2.txFullLatch = s.txFullLatch := by
  unfold dequeue; split <;> simp

@[simp] theorem dequeue_cs (q : Fifo) (s : State) : (dequeue q s).2.cs = s.cs := by
  unfold dequeue; split <;> simp

@[simp] theorem dequeue_gpio (q : Fifo) (s : State) : (dequeue q s).2.gpio = s.gpio := by
  unfold dequeue; split <;> simp

@[simp] theorem dequeue_rssiTop (q : Fifo) (s : State) : (dequeue q s).2.rssiTop = s.rssiTop := by
  unfold dequeue; split <;> simp

@[simp] theorem dequeue_lqi (q : Fifo) (s : State) : (dequeue q s).2.lqi = s.lqi := by
  unfold dequeue; split <;> simp

@[simp] theorem dequeue_lastCrcOk (q : Fifo) (s : State) : (dequeue q s).2.lastCrcOk = s.lastCrcOk := by
  unfold dequeue; split <;> simp

@[simp] theorem dequeue_refused (q : Fifo) (s : State) : (dequeue q s).2.refused = s.refused := by
  unfold dequeue; split <;> simp

@[simp] theorem dequeue_refusedReason (q : Fifo) (s : State) : (dequeue q s).2.refusedReason = s.refusedReason := by
  unfold dequeue; split <;> simp

@[simp] theorem dequeue_resp (q : Fifo) (s : State) : (dequeue q s).2.resp = s.resp := by
  unfold dequeue; split <;> simp

@[simp] theorem dequeue_input (q : Fifo) (s : State) : (dequeue q s).2.input = s.input := by
  unfold dequeue; split <;> simp

@[simp] theorem dequeue_draws (q : Fifo) (s : State) : (dequeue q s).2.draws = s.draws := by
  unfold dequeue; split <;> simp

@[simp] theorem dequeue_cfg (q : Fifo) (s : State) : (dequeue q s).2.cfg = s.cfg := by
  unfold dequeue; split <;> simp

/-- `Dequeue` of the RX FIFO: its head and the rest, or 0x00 from an empty FIFO (R88). -/
theorem dequeue_rx (s : State) :
    (dequeue .rx s).1 = s.rxFifo.headD 0x00 ∧ (dequeue .rx s).2.rxFifo = s.rxFifo.tail ∧
      (dequeue .rx s).2.txFifo = s.txFifo := by
  unfold dequeue
  simp only [fifo_rx]
  split <;> rename_i h <;> simp [h]

/-- `Dequeue` of the TX FIFO (R88). -/
theorem dequeue_tx (s : State) :
    (dequeue .tx s).1 = s.txFifo.headD 0x00 ∧ (dequeue .tx s).2.txFifo = s.txFifo.tail ∧
      (dequeue .tx s).2.rxFifo = s.rxFifo := by
  unfold dequeue
  simp only [fifo_tx]
  split <;> rename_i h <;> simp [h]

@[simp] theorem dequeue_tx_rxFifo (s : State) : (dequeue .tx s).2.rxFifo = s.rxFifo := (dequeue_tx s).2.2
@[simp] theorem dequeue_rx_txFifo (s : State) : (dequeue .rx s).2.txFifo = s.txFifo := (dequeue_rx s).2.2

/-! Clear writes its FIFO (R90). -/

@[simp] theorem clearFifo_mode (q : Fifo) (s : State) : (clearFifo q s).mode = s.mode := by
  simp [clearFifo]

@[simp] theorem clearFifo_bus (q : Fifo) (s : State) : (clearFifo q s).bus = s.bus := by
  simp [clearFifo]

@[simp] theorem clearFifo_desc (q : Fifo) (s : State) : (clearFifo q s).desc = s.desc := by
  simp [clearFifo]

@[simp] theorem clearFifo_bank (q : Fifo) (s : State) : (clearFifo q s).bank = s.bank := by
  simp [clearFifo]

@[simp] theorem clearFifo_activePoly (q : Fifo) (s : State) : (clearFifo q s).activePoly = s.activePoly := by
  simp [clearFifo]

@[simp] theorem clearFifo_activeSeed (q : Fifo) (s : State) : (clearFifo q s).activeSeed = s.activeSeed := by
  simp [clearFifo]

@[simp] theorem clearFifo_pending (q : Fifo) (s : State) : (clearFifo q s).pending = s.pending := by
  simp [clearFifo]

@[simp] theorem clearFifo_syncPulse (q : Fifo) (s : State) : (clearFifo q s).syncPulse = s.syncPulse := by
  simp [clearFifo]

@[simp] theorem clearFifo_txFullLatch (q : Fifo) (s : State) : (clearFifo q s).txFullLatch = s.txFullLatch := by
  simp [clearFifo]

@[simp] theorem clearFifo_cs (q : Fifo) (s : State) : (clearFifo q s).cs = s.cs := by
  simp [clearFifo]

@[simp] theorem clearFifo_gpio (q : Fifo) (s : State) : (clearFifo q s).gpio = s.gpio := by
  simp [clearFifo]

@[simp] theorem clearFifo_rssiTop (q : Fifo) (s : State) : (clearFifo q s).rssiTop = s.rssiTop := by
  simp [clearFifo]

@[simp] theorem clearFifo_lqi (q : Fifo) (s : State) : (clearFifo q s).lqi = s.lqi := by
  simp [clearFifo]

@[simp] theorem clearFifo_lastCrcOk (q : Fifo) (s : State) : (clearFifo q s).lastCrcOk = s.lastCrcOk := by
  simp [clearFifo]

@[simp] theorem clearFifo_refused (q : Fifo) (s : State) : (clearFifo q s).refused = s.refused := by
  simp [clearFifo]

@[simp] theorem clearFifo_refusedReason (q : Fifo) (s : State) : (clearFifo q s).refusedReason = s.refusedReason := by
  simp [clearFifo]

@[simp] theorem clearFifo_resp (q : Fifo) (s : State) : (clearFifo q s).resp = s.resp := by
  simp [clearFifo]

@[simp] theorem clearFifo_out (q : Fifo) (s : State) : (clearFifo q s).out = s.out := by
  simp [clearFifo]

@[simp] theorem clearFifo_input (q : Fifo) (s : State) : (clearFifo q s).input = s.input := by
  simp [clearFifo]

@[simp] theorem clearFifo_draws (q : Fifo) (s : State) : (clearFifo q s).draws = s.draws := by
  simp [clearFifo]

@[simp] theorem clearFifo_cfg (q : Fifo) (s : State) : (clearFifo q s).cfg = s.cfg := by
  simp [clearFifo]

@[simp] theorem clearFifo_tx_txFifo (s : State) : (clearFifo .tx s).txFifo = [] := rfl
@[simp] theorem clearFifo_tx_rxFifo (s : State) : (clearFifo .tx s).rxFifo = s.rxFifo := rfl
@[simp] theorem clearFifo_rx_rxFifo (s : State) : (clearFifo .rx s).rxFifo = [] := rfl
@[simp] theorem clearFifo_rx_txFifo (s : State) : (clearFifo .rx s).txFifo = s.txFifo := rfl

/-! RegRead writes the trace alone (R80). -/

@[simp] theorem regRead_mode (sp : Space) (a : Byte) (s : State) : (regRead sp a s).2.mode = s.mode := by
  unfold regRead; split <;> simp

@[simp] theorem regRead_bus (sp : Space) (a : Byte) (s : State) : (regRead sp a s).2.bus = s.bus := by
  unfold regRead; split <;> simp

@[simp] theorem regRead_desc (sp : Space) (a : Byte) (s : State) : (regRead sp a s).2.desc = s.desc := by
  unfold regRead; split <;> simp

@[simp] theorem regRead_bank (sp : Space) (a : Byte) (s : State) : (regRead sp a s).2.bank = s.bank := by
  unfold regRead; split <;> simp

@[simp] theorem regRead_activePoly (sp : Space) (a : Byte) (s : State) : (regRead sp a s).2.activePoly = s.activePoly := by
  unfold regRead; split <;> simp

@[simp] theorem regRead_activeSeed (sp : Space) (a : Byte) (s : State) : (regRead sp a s).2.activeSeed = s.activeSeed := by
  unfold regRead; split <;> simp

@[simp] theorem regRead_rxFifo (sp : Space) (a : Byte) (s : State) : (regRead sp a s).2.rxFifo = s.rxFifo := by
  unfold regRead; split <;> simp

@[simp] theorem regRead_txFifo (sp : Space) (a : Byte) (s : State) : (regRead sp a s).2.txFifo = s.txFifo := by
  unfold regRead; split <;> simp

@[simp] theorem regRead_pending (sp : Space) (a : Byte) (s : State) : (regRead sp a s).2.pending = s.pending := by
  unfold regRead; split <;> simp

@[simp] theorem regRead_syncPulse (sp : Space) (a : Byte) (s : State) : (regRead sp a s).2.syncPulse = s.syncPulse := by
  unfold regRead; split <;> simp

@[simp] theorem regRead_txFullLatch (sp : Space) (a : Byte) (s : State) : (regRead sp a s).2.txFullLatch = s.txFullLatch := by
  unfold regRead; split <;> simp

@[simp] theorem regRead_cs (sp : Space) (a : Byte) (s : State) : (regRead sp a s).2.cs = s.cs := by
  unfold regRead; split <;> simp

@[simp] theorem regRead_gpio (sp : Space) (a : Byte) (s : State) : (regRead sp a s).2.gpio = s.gpio := by
  unfold regRead; split <;> simp

@[simp] theorem regRead_rssiTop (sp : Space) (a : Byte) (s : State) : (regRead sp a s).2.rssiTop = s.rssiTop := by
  unfold regRead; split <;> simp

@[simp] theorem regRead_lqi (sp : Space) (a : Byte) (s : State) : (regRead sp a s).2.lqi = s.lqi := by
  unfold regRead; split <;> simp

@[simp] theorem regRead_lastCrcOk (sp : Space) (a : Byte) (s : State) : (regRead sp a s).2.lastCrcOk = s.lastCrcOk := by
  unfold regRead; split <;> simp

@[simp] theorem regRead_refused (sp : Space) (a : Byte) (s : State) : (regRead sp a s).2.refused = s.refused := by
  unfold regRead; split <;> simp

@[simp] theorem regRead_refusedReason (sp : Space) (a : Byte) (s : State) : (regRead sp a s).2.refusedReason = s.refusedReason := by
  unfold regRead; split <;> simp

@[simp] theorem regRead_resp (sp : Space) (a : Byte) (s : State) : (regRead sp a s).2.resp = s.resp := by
  unfold regRead; split <;> simp

@[simp] theorem regRead_input (sp : Space) (a : Byte) (s : State) : (regRead sp a s).2.input = s.input := by
  unfold regRead; split <;> simp

@[simp] theorem regRead_draws (sp : Space) (a : Byte) (s : State) : (regRead sp a s).2.draws = s.draws := by
  unfold regRead; split <;> simp

@[simp] theorem regRead_cfg (sp : Space) (a : Byte) (s : State) : (regRead sp a s).2.cfg = s.cfg := by
  unfold regRead; split <;> simp

/-! The CRC_CFG callback writes the active pair (R84). -/

@[simp] theorem crcCfgWritten_mode (m : BitVec 2) (s : State) : (crcCfgWritten m s).mode = s.mode := by
  unfold crcCfgWritten; split <;> simp

@[simp] theorem crcCfgWritten_bus (m : BitVec 2) (s : State) : (crcCfgWritten m s).bus = s.bus := by
  unfold crcCfgWritten; split <;> simp

@[simp] theorem crcCfgWritten_desc (m : BitVec 2) (s : State) : (crcCfgWritten m s).desc = s.desc := by
  unfold crcCfgWritten; split <;> simp

@[simp] theorem crcCfgWritten_bank (m : BitVec 2) (s : State) : (crcCfgWritten m s).bank = s.bank := by
  unfold crcCfgWritten; split <;> simp

@[simp] theorem crcCfgWritten_rxFifo (m : BitVec 2) (s : State) : (crcCfgWritten m s).rxFifo = s.rxFifo := by
  unfold crcCfgWritten; split <;> simp

@[simp] theorem crcCfgWritten_txFifo (m : BitVec 2) (s : State) : (crcCfgWritten m s).txFifo = s.txFifo := by
  unfold crcCfgWritten; split <;> simp

@[simp] theorem crcCfgWritten_pending (m : BitVec 2) (s : State) : (crcCfgWritten m s).pending = s.pending := by
  unfold crcCfgWritten; split <;> simp

@[simp] theorem crcCfgWritten_syncPulse (m : BitVec 2) (s : State) : (crcCfgWritten m s).syncPulse = s.syncPulse := by
  unfold crcCfgWritten; split <;> simp

@[simp] theorem crcCfgWritten_txFullLatch (m : BitVec 2) (s : State) : (crcCfgWritten m s).txFullLatch = s.txFullLatch := by
  unfold crcCfgWritten; split <;> simp

@[simp] theorem crcCfgWritten_cs (m : BitVec 2) (s : State) : (crcCfgWritten m s).cs = s.cs := by
  unfold crcCfgWritten; split <;> simp

@[simp] theorem crcCfgWritten_gpio (m : BitVec 2) (s : State) : (crcCfgWritten m s).gpio = s.gpio := by
  unfold crcCfgWritten; split <;> simp

@[simp] theorem crcCfgWritten_rssiTop (m : BitVec 2) (s : State) : (crcCfgWritten m s).rssiTop = s.rssiTop := by
  unfold crcCfgWritten; split <;> simp

@[simp] theorem crcCfgWritten_lqi (m : BitVec 2) (s : State) : (crcCfgWritten m s).lqi = s.lqi := by
  unfold crcCfgWritten; split <;> simp

@[simp] theorem crcCfgWritten_lastCrcOk (m : BitVec 2) (s : State) : (crcCfgWritten m s).lastCrcOk = s.lastCrcOk := by
  unfold crcCfgWritten; split <;> simp

@[simp] theorem crcCfgWritten_refused (m : BitVec 2) (s : State) : (crcCfgWritten m s).refused = s.refused := by
  unfold crcCfgWritten; split <;> simp

@[simp] theorem crcCfgWritten_refusedReason (m : BitVec 2) (s : State) : (crcCfgWritten m s).refusedReason = s.refusedReason := by
  unfold crcCfgWritten; split <;> simp

@[simp] theorem crcCfgWritten_resp (m : BitVec 2) (s : State) : (crcCfgWritten m s).resp = s.resp := by
  unfold crcCfgWritten; split <;> simp

@[simp] theorem crcCfgWritten_out (m : BitVec 2) (s : State) : (crcCfgWritten m s).out = s.out := by
  unfold crcCfgWritten; split <;> simp

@[simp] theorem crcCfgWritten_input (m : BitVec 2) (s : State) : (crcCfgWritten m s).input = s.input := by
  unfold crcCfgWritten; split <;> simp

@[simp] theorem crcCfgWritten_draws (m : BitVec 2) (s : State) : (crcCfgWritten m s).draws = s.draws := by
  unfold crcCfgWritten; split <;> simp

@[simp] theorem crcCfgWritten_cfg (m : BitVec 2) (s : State) : (crcCfgWritten m s).cfg = s.cfg := by
  unfold crcCfgWritten; split <;> simp

/-! RegWrite writes a cell, the active pair and the trace (R81). -/

@[simp] theorem regWrite_mode (sp : Space) (a v : Byte) (s : State) : (regWrite sp a v s).mode = s.mode := by
  simp only [regWrite]; split <;> [(split <;> simp); simp; simp]

@[simp] theorem regWrite_bus (sp : Space) (a v : Byte) (s : State) : (regWrite sp a v s).bus = s.bus := by
  simp only [regWrite]; split <;> [(split <;> simp); simp; simp]

@[simp] theorem regWrite_desc (sp : Space) (a v : Byte) (s : State) : (regWrite sp a v s).desc = s.desc := by
  simp only [regWrite]; split <;> [(split <;> simp); simp; simp]

@[simp] theorem regWrite_rxFifo (sp : Space) (a v : Byte) (s : State) : (regWrite sp a v s).rxFifo = s.rxFifo := by
  simp only [regWrite]; split <;> [(split <;> simp); simp; simp]

@[simp] theorem regWrite_txFifo (sp : Space) (a v : Byte) (s : State) : (regWrite sp a v s).txFifo = s.txFifo := by
  simp only [regWrite]; split <;> [(split <;> simp); simp; simp]

@[simp] theorem regWrite_pending (sp : Space) (a v : Byte) (s : State) : (regWrite sp a v s).pending = s.pending := by
  simp only [regWrite]; split <;> [(split <;> simp); simp; simp]

@[simp] theorem regWrite_syncPulse (sp : Space) (a v : Byte) (s : State) : (regWrite sp a v s).syncPulse = s.syncPulse := by
  simp only [regWrite]; split <;> [(split <;> simp); simp; simp]

@[simp] theorem regWrite_txFullLatch (sp : Space) (a v : Byte) (s : State) : (regWrite sp a v s).txFullLatch = s.txFullLatch := by
  simp only [regWrite]; split <;> [(split <;> simp); simp; simp]

@[simp] theorem regWrite_cs (sp : Space) (a v : Byte) (s : State) : (regWrite sp a v s).cs = s.cs := by
  simp only [regWrite]; split <;> [(split <;> simp); simp; simp]

@[simp] theorem regWrite_gpio (sp : Space) (a v : Byte) (s : State) : (regWrite sp a v s).gpio = s.gpio := by
  simp only [regWrite]; split <;> [(split <;> simp); simp; simp]

@[simp] theorem regWrite_rssiTop (sp : Space) (a v : Byte) (s : State) : (regWrite sp a v s).rssiTop = s.rssiTop := by
  simp only [regWrite]; split <;> [(split <;> simp); simp; simp]

@[simp] theorem regWrite_lqi (sp : Space) (a v : Byte) (s : State) : (regWrite sp a v s).lqi = s.lqi := by
  simp only [regWrite]; split <;> [(split <;> simp); simp; simp]

@[simp] theorem regWrite_lastCrcOk (sp : Space) (a v : Byte) (s : State) : (regWrite sp a v s).lastCrcOk = s.lastCrcOk := by
  simp only [regWrite]; split <;> [(split <;> simp); simp; simp]

@[simp] theorem regWrite_refused (sp : Space) (a v : Byte) (s : State) : (regWrite sp a v s).refused = s.refused := by
  simp only [regWrite]; split <;> [(split <;> simp); simp; simp]

@[simp] theorem regWrite_refusedReason (sp : Space) (a v : Byte) (s : State) : (regWrite sp a v s).refusedReason = s.refusedReason := by
  simp only [regWrite]; split <;> [(split <;> simp); simp; simp]

@[simp] theorem regWrite_resp (sp : Space) (a v : Byte) (s : State) : (regWrite sp a v s).resp = s.resp := by
  simp only [regWrite]; split <;> [(split <;> simp); simp; simp]

@[simp] theorem regWrite_input (sp : Space) (a v : Byte) (s : State) : (regWrite sp a v s).input = s.input := by
  simp only [regWrite]; split <;> [(split <;> simp); simp; simp]

@[simp] theorem regWrite_draws (sp : Space) (a v : Byte) (s : State) : (regWrite sp a v s).draws = s.draws := by
  simp only [regWrite]; split <;> [(split <;> simp); simp; simp]

@[simp] theorem regWrite_cfg (sp : Space) (a v : Byte) (s : State) : (regWrite sp a v s).cfg = s.cfg := by
  simp only [regWrite]; split <;> [(split <;> simp); simp; simp]

/-- `RegWrite` stores at a stored cell and nowhere else (R81 to R83). -/
theorem regWrite_bank (sp : Space) (a v : Byte) (s : State) :
    (regWrite sp a v s).bank =
      if cellKind s.cfg sp a = .stored then Memory.write s.cfg (cellKey sp a) v s.bank else s.bank := by
  simp only [regWrite]
  split
  · split <;> simp [*]
  · simp [*]
  · simp [*]

/-! A drop writes the mode and the trace (R268). -/

@[simp] theorem dropFrame_bus (c : DiagCode) (s : State) : (dropFrame c s).bus = s.bus := by
  simp only [dropFrame]; split <;> simp

@[simp] theorem dropFrame_desc (c : DiagCode) (s : State) : (dropFrame c s).desc = s.desc := by
  simp only [dropFrame]; split <;> simp

@[simp] theorem dropFrame_bank (c : DiagCode) (s : State) : (dropFrame c s).bank = s.bank := by
  simp only [dropFrame]; split <;> simp

@[simp] theorem dropFrame_activePoly (c : DiagCode) (s : State) : (dropFrame c s).activePoly = s.activePoly := by
  simp only [dropFrame]; split <;> simp

@[simp] theorem dropFrame_activeSeed (c : DiagCode) (s : State) : (dropFrame c s).activeSeed = s.activeSeed := by
  simp only [dropFrame]; split <;> simp

@[simp] theorem dropFrame_rxFifo (c : DiagCode) (s : State) : (dropFrame c s).rxFifo = s.rxFifo := by
  simp only [dropFrame]; split <;> simp

@[simp] theorem dropFrame_txFifo (c : DiagCode) (s : State) : (dropFrame c s).txFifo = s.txFifo := by
  simp only [dropFrame]; split <;> simp

@[simp] theorem dropFrame_pending (c : DiagCode) (s : State) : (dropFrame c s).pending = s.pending := by
  simp only [dropFrame]; split <;> simp

@[simp] theorem dropFrame_syncPulse (c : DiagCode) (s : State) : (dropFrame c s).syncPulse = s.syncPulse := by
  simp only [dropFrame]; split <;> simp

@[simp] theorem dropFrame_txFullLatch (c : DiagCode) (s : State) : (dropFrame c s).txFullLatch = s.txFullLatch := by
  simp only [dropFrame]; split <;> simp

@[simp] theorem dropFrame_cs (c : DiagCode) (s : State) : (dropFrame c s).cs = s.cs := by
  simp only [dropFrame]; split <;> simp

@[simp] theorem dropFrame_gpio (c : DiagCode) (s : State) : (dropFrame c s).gpio = s.gpio := by
  simp only [dropFrame]; split <;> simp

@[simp] theorem dropFrame_rssiTop (c : DiagCode) (s : State) : (dropFrame c s).rssiTop = s.rssiTop := by
  simp only [dropFrame]; split <;> simp

@[simp] theorem dropFrame_lqi (c : DiagCode) (s : State) : (dropFrame c s).lqi = s.lqi := by
  simp only [dropFrame]; split <;> simp

@[simp] theorem dropFrame_lastCrcOk (c : DiagCode) (s : State) : (dropFrame c s).lastCrcOk = s.lastCrcOk := by
  simp only [dropFrame]; split <;> simp

@[simp] theorem dropFrame_refused (c : DiagCode) (s : State) : (dropFrame c s).refused = s.refused := by
  simp only [dropFrame]; split <;> simp

@[simp] theorem dropFrame_refusedReason (c : DiagCode) (s : State) : (dropFrame c s).refusedReason = s.refusedReason := by
  simp only [dropFrame]; split <;> simp

@[simp] theorem dropFrame_resp (c : DiagCode) (s : State) : (dropFrame c s).resp = s.resp := by
  simp only [dropFrame]; split <;> simp

@[simp] theorem dropFrame_input (c : DiagCode) (s : State) : (dropFrame c s).input = s.input := by
  simp only [dropFrame]; split <;> simp

@[simp] theorem dropFrame_draws (c : DiagCode) (s : State) : (dropFrame c s).draws = s.draws := by
  simp only [dropFrame]; split <;> simp

@[simp] theorem dropFrame_cfg (c : DiagCode) (s : State) : (dropFrame c s).cfg = s.cfg := by
  simp only [dropFrame]; split <;> simp

/-- A drop forces Idle exactly under TERM_ON_BAD_PACKET_EN (R268). -/
theorem dropFrame_mode (c : DiagCode) (s : State) :
    (dropFrame c s).mode = if termOnBadPacket s then .idle else s.mode := by
  have h : termOnBadPacket (s.log c) = termOnBadPacket s := termOnBadPacket_congr rfl rfl
  simp only [dropFrame, h]
  split <;> simp

/-! The ACK is emitted and nothing else (R273). -/

@[simp] theorem maybeAck_mode (f : List Byte) (s : State) : (maybeAck f s).mode = s.mode := by
  unfold maybeAck; split <;> simp

@[simp] theorem maybeAck_bus (f : List Byte) (s : State) : (maybeAck f s).bus = s.bus := by
  unfold maybeAck; split <;> simp

@[simp] theorem maybeAck_desc (f : List Byte) (s : State) : (maybeAck f s).desc = s.desc := by
  unfold maybeAck; split <;> simp

@[simp] theorem maybeAck_bank (f : List Byte) (s : State) : (maybeAck f s).bank = s.bank := by
  unfold maybeAck; split <;> simp

@[simp] theorem maybeAck_activePoly (f : List Byte) (s : State) : (maybeAck f s).activePoly = s.activePoly := by
  unfold maybeAck; split <;> simp

@[simp] theorem maybeAck_activeSeed (f : List Byte) (s : State) : (maybeAck f s).activeSeed = s.activeSeed := by
  unfold maybeAck; split <;> simp

@[simp] theorem maybeAck_rxFifo (f : List Byte) (s : State) : (maybeAck f s).rxFifo = s.rxFifo := by
  unfold maybeAck; split <;> simp

@[simp] theorem maybeAck_txFifo (f : List Byte) (s : State) : (maybeAck f s).txFifo = s.txFifo := by
  unfold maybeAck; split <;> simp

@[simp] theorem maybeAck_pending (f : List Byte) (s : State) : (maybeAck f s).pending = s.pending := by
  unfold maybeAck; split <;> simp

@[simp] theorem maybeAck_syncPulse (f : List Byte) (s : State) : (maybeAck f s).syncPulse = s.syncPulse := by
  unfold maybeAck; split <;> simp

@[simp] theorem maybeAck_txFullLatch (f : List Byte) (s : State) : (maybeAck f s).txFullLatch = s.txFullLatch := by
  unfold maybeAck; split <;> simp

@[simp] theorem maybeAck_cs (f : List Byte) (s : State) : (maybeAck f s).cs = s.cs := by
  unfold maybeAck; split <;> simp

@[simp] theorem maybeAck_gpio (f : List Byte) (s : State) : (maybeAck f s).gpio = s.gpio := by
  unfold maybeAck; split <;> simp

@[simp] theorem maybeAck_rssiTop (f : List Byte) (s : State) : (maybeAck f s).rssiTop = s.rssiTop := by
  unfold maybeAck; split <;> simp

@[simp] theorem maybeAck_lqi (f : List Byte) (s : State) : (maybeAck f s).lqi = s.lqi := by
  unfold maybeAck; split <;> simp

@[simp] theorem maybeAck_lastCrcOk (f : List Byte) (s : State) : (maybeAck f s).lastCrcOk = s.lastCrcOk := by
  unfold maybeAck; split <;> simp

@[simp] theorem maybeAck_refused (f : List Byte) (s : State) : (maybeAck f s).refused = s.refused := by
  unfold maybeAck; split <;> simp

@[simp] theorem maybeAck_refusedReason (f : List Byte) (s : State) : (maybeAck f s).refusedReason = s.refusedReason := by
  unfold maybeAck; split <;> simp

@[simp] theorem maybeAck_resp (f : List Byte) (s : State) : (maybeAck f s).resp = s.resp := by
  unfold maybeAck; split <;> simp

@[simp] theorem maybeAck_input (f : List Byte) (s : State) : (maybeAck f s).input = s.input := by
  unfold maybeAck; split <;> simp

@[simp] theorem maybeAck_draws (f : List Byte) (s : State) : (maybeAck f s).draws = s.draws := by
  unfold maybeAck; split <;> simp

@[simp] theorem maybeAck_cfg (f : List Byte) (s : State) : (maybeAck f s).cfg = s.cfg := by
  unfold maybeAck; split <;> simp

/-! Steps 5 to 9 (R269 to R275). -/

@[simp] theorem acceptFrame_bus (f : List Byte) (s : State) : (acceptFrame f s).bus = s.bus := by
  simp [acceptFrame]

@[simp] theorem acceptFrame_desc (f : List Byte) (s : State) : (acceptFrame f s).desc = s.desc := by
  simp [acceptFrame]

@[simp] theorem acceptFrame_bank (f : List Byte) (s : State) : (acceptFrame f s).bank = s.bank := by
  simp [acceptFrame]

@[simp] theorem acceptFrame_activePoly (f : List Byte) (s : State) : (acceptFrame f s).activePoly = s.activePoly := by
  simp [acceptFrame]

@[simp] theorem acceptFrame_activeSeed (f : List Byte) (s : State) : (acceptFrame f s).activeSeed = s.activeSeed := by
  simp [acceptFrame]

@[simp] theorem acceptFrame_txFifo (f : List Byte) (s : State) : (acceptFrame f s).txFifo = s.txFifo := by
  simp [acceptFrame]

@[simp] theorem acceptFrame_pending (f : List Byte) (s : State) : (acceptFrame f s).pending = s.pending := by
  simp [acceptFrame]

@[simp] theorem acceptFrame_cs (f : List Byte) (s : State) : (acceptFrame f s).cs = s.cs := by
  simp [acceptFrame]

@[simp] theorem acceptFrame_rssiTop (f : List Byte) (s : State) : (acceptFrame f s).rssiTop = s.rssiTop := by
  simp [acceptFrame]

@[simp] theorem acceptFrame_lqi (f : List Byte) (s : State) : (acceptFrame f s).lqi = s.lqi := by
  simp [acceptFrame]

@[simp] theorem acceptFrame_lastCrcOk (f : List Byte) (s : State) : (acceptFrame f s).lastCrcOk = s.lastCrcOk := by
  simp [acceptFrame]

@[simp] theorem acceptFrame_refused (f : List Byte) (s : State) : (acceptFrame f s).refused = s.refused := by
  simp [acceptFrame]

@[simp] theorem acceptFrame_refusedReason (f : List Byte) (s : State) : (acceptFrame f s).refusedReason = s.refusedReason := by
  simp [acceptFrame]

@[simp] theorem acceptFrame_resp (f : List Byte) (s : State) : (acceptFrame f s).resp = s.resp := by
  simp [acceptFrame]

@[simp] theorem acceptFrame_input (f : List Byte) (s : State) : (acceptFrame f s).input = s.input := by
  simp [acceptFrame]

@[simp] theorem acceptFrame_draws (f : List Byte) (s : State) : (acceptFrame f s).draws = s.draws := by
  simp [acceptFrame]

@[simp] theorem acceptFrame_cfg (f : List Byte) (s : State) : (acceptFrame f s).cfg = s.cfg := by
  simp [acceptFrame]

@[simp] theorem acceptFrame_mode (f : List Byte) (s : State) : (acceptFrame f s).mode = offMode (rxoffMode s) := by
  have h : rxoffMode (enqueueAll .rx (rxBody s f) s) = rxoffMode s := rxoffMode_congr (by simp) (by simp)
  simp [acceptFrame, h]

@[simp] theorem acceptFrame_syncPulse (f : List Byte) (s : State) : (acceptFrame f s).syncPulse = 0 := rfl

/-- What an accepted frame leaves in the RX FIFO (R271). -/
theorem acceptFrame_rxFifo (f : List Byte) (s : State) (h : s.rxFifo.length ≤ s.cfg.fifoCapacity) :
    (acceptFrame f s).rxFifo = (s.rxFifo ++ rxBody s f).take s.cfg.fifoCapacity := by
  simp [acceptFrame, enqueueAll_rx_rxFifo _ _ h]

/-! Step 4 and the rest (R266, R267). -/

@[simp] theorem checkCrcStep_bus (f : List Byte) (s : State) : (checkCrcStep f s).bus = s.bus := by
  simp only [checkCrcStep]; split <;> [simp; (split <;> simp)]

@[simp] theorem checkCrcStep_desc (f : List Byte) (s : State) : (checkCrcStep f s).desc = s.desc := by
  simp only [checkCrcStep]; split <;> [simp; (split <;> simp)]

@[simp] theorem checkCrcStep_bank (f : List Byte) (s : State) : (checkCrcStep f s).bank = s.bank := by
  simp only [checkCrcStep]; split <;> [simp; (split <;> simp)]

@[simp] theorem checkCrcStep_activePoly (f : List Byte) (s : State) : (checkCrcStep f s).activePoly = s.activePoly := by
  simp only [checkCrcStep]; split <;> [simp; (split <;> simp)]

@[simp] theorem checkCrcStep_activeSeed (f : List Byte) (s : State) : (checkCrcStep f s).activeSeed = s.activeSeed := by
  simp only [checkCrcStep]; split <;> [simp; (split <;> simp)]

@[simp] theorem checkCrcStep_txFifo (f : List Byte) (s : State) : (checkCrcStep f s).txFifo = s.txFifo := by
  simp only [checkCrcStep]; split <;> [simp; (split <;> simp)]

@[simp] theorem checkCrcStep_pending (f : List Byte) (s : State) : (checkCrcStep f s).pending = s.pending := by
  simp only [checkCrcStep]; split <;> [simp; (split <;> simp)]

@[simp] theorem checkCrcStep_cs (f : List Byte) (s : State) : (checkCrcStep f s).cs = s.cs := by
  simp only [checkCrcStep]; split <;> [simp; (split <;> simp)]

@[simp] theorem checkCrcStep_rssiTop (f : List Byte) (s : State) : (checkCrcStep f s).rssiTop = s.rssiTop := by
  simp only [checkCrcStep]; split <;> [simp; (split <;> simp)]

@[simp] theorem checkCrcStep_lqi (f : List Byte) (s : State) : (checkCrcStep f s).lqi = s.lqi := by
  simp only [checkCrcStep]; split <;> [simp; (split <;> simp)]

@[simp] theorem checkCrcStep_refused (f : List Byte) (s : State) : (checkCrcStep f s).refused = s.refused := by
  simp only [checkCrcStep]; split <;> [simp; (split <;> simp)]

@[simp] theorem checkCrcStep_refusedReason (f : List Byte) (s : State) : (checkCrcStep f s).refusedReason = s.refusedReason := by
  simp only [checkCrcStep]; split <;> [simp; (split <;> simp)]

@[simp] theorem checkCrcStep_resp (f : List Byte) (s : State) : (checkCrcStep f s).resp = s.resp := by
  simp only [checkCrcStep]; split <;> [simp; (split <;> simp)]

@[simp] theorem checkCrcStep_input (f : List Byte) (s : State) : (checkCrcStep f s).input = s.input := by
  simp only [checkCrcStep]; split <;> [simp; (split <;> simp)]

@[simp] theorem checkCrcStep_draws (f : List Byte) (s : State) : (checkCrcStep f s).draws = s.draws := by
  simp only [checkCrcStep]; split <;> [simp; (split <;> simp)]

@[simp] theorem checkCrcStep_cfg (f : List Byte) (s : State) : (checkCrcStep f s).cfg = s.cfg := by
  simp only [checkCrcStep]; split <;> [simp; (split <;> simp)]

/-! ProcessFrame writes no register cell (R251), no TX FIFO, no pending slot. -/

@[simp] theorem processFrame_bus (f : List Byte) (s : State) : (processFrame f s).bus = s.bus := by
  simp only [processFrame]; split <;> [simp; (split <;> [simp; (split <;> simp)])]

@[simp] theorem processFrame_desc (f : List Byte) (s : State) : (processFrame f s).desc = s.desc := by
  simp only [processFrame]; split <;> [simp; (split <;> [simp; (split <;> simp)])]

@[simp] theorem processFrame_bank (f : List Byte) (s : State) : (processFrame f s).bank = s.bank := by
  simp only [processFrame]; split <;> [simp; (split <;> [simp; (split <;> simp)])]

@[simp] theorem processFrame_activePoly (f : List Byte) (s : State) : (processFrame f s).activePoly = s.activePoly := by
  simp only [processFrame]; split <;> [simp; (split <;> [simp; (split <;> simp)])]

@[simp] theorem processFrame_activeSeed (f : List Byte) (s : State) : (processFrame f s).activeSeed = s.activeSeed := by
  simp only [processFrame]; split <;> [simp; (split <;> [simp; (split <;> simp)])]

@[simp] theorem processFrame_txFifo (f : List Byte) (s : State) : (processFrame f s).txFifo = s.txFifo := by
  simp only [processFrame]; split <;> [simp; (split <;> [simp; (split <;> simp)])]

@[simp] theorem processFrame_pending (f : List Byte) (s : State) : (processFrame f s).pending = s.pending := by
  simp only [processFrame]; split <;> [simp; (split <;> [simp; (split <;> simp)])]

@[simp] theorem processFrame_cs (f : List Byte) (s : State) : (processFrame f s).cs = s.cs := by
  simp only [processFrame]; split <;> [simp; (split <;> [simp; (split <;> simp)])]

@[simp] theorem processFrame_refused (f : List Byte) (s : State) : (processFrame f s).refused = s.refused := by
  simp only [processFrame]; split <;> [simp; (split <;> [simp; (split <;> simp)])]

@[simp] theorem processFrame_refusedReason (f : List Byte) (s : State) : (processFrame f s).refusedReason = s.refusedReason := by
  simp only [processFrame]; split <;> [simp; (split <;> [simp; (split <;> simp)])]

@[simp] theorem processFrame_resp (f : List Byte) (s : State) : (processFrame f s).resp = s.resp := by
  simp only [processFrame]; split <;> [simp; (split <;> [simp; (split <;> simp)])]

@[simp] theorem processFrame_input (f : List Byte) (s : State) : (processFrame f s).input = s.input := by
  simp only [processFrame]; split <;> [simp; (split <;> [simp; (split <;> simp)])]

@[simp] theorem processFrame_cfg (f : List Byte) (s : State) : (processFrame f s).cfg = s.cfg := by
  simp only [processFrame]; split <;> [simp; (split <;> [simp; (split <;> simp)])]

/-! SetMode (10_state.md R25). -/

@[simp] theorem setMode_bus (m : ChipMode) (s : State) : (setMode m s).bus = s.bus := by
  simp only [setMode]; split <;> [(split <;> simp); simp]

@[simp] theorem setMode_desc (m : ChipMode) (s : State) : (setMode m s).desc = s.desc := by
  simp only [setMode]; split <;> [(split <;> simp); simp]

@[simp] theorem setMode_bank (m : ChipMode) (s : State) : (setMode m s).bank = s.bank := by
  simp only [setMode]; split <;> [(split <;> simp); simp]

@[simp] theorem setMode_activePoly (m : ChipMode) (s : State) : (setMode m s).activePoly = s.activePoly := by
  simp only [setMode]; split <;> [(split <;> simp); simp]

@[simp] theorem setMode_activeSeed (m : ChipMode) (s : State) : (setMode m s).activeSeed = s.activeSeed := by
  simp only [setMode]; split <;> [(split <;> simp); simp]

@[simp] theorem setMode_txFifo (m : ChipMode) (s : State) : (setMode m s).txFifo = s.txFifo := by
  simp only [setMode]; split <;> [(split <;> simp); simp]

@[simp] theorem setMode_cs (m : ChipMode) (s : State) : (setMode m s).cs = s.cs := by
  simp only [setMode]; split <;> [(split <;> simp); simp]

@[simp] theorem setMode_refused (m : ChipMode) (s : State) : (setMode m s).refused = s.refused := by
  simp only [setMode]; split <;> [(split <;> simp); simp]

@[simp] theorem setMode_refusedReason (m : ChipMode) (s : State) : (setMode m s).refusedReason = s.refusedReason := by
  simp only [setMode]; split <;> [(split <;> simp); simp]

@[simp] theorem setMode_resp (m : ChipMode) (s : State) : (setMode m s).resp = s.resp := by
  simp only [setMode]; split <;> [(split <;> simp); simp]

@[simp] theorem setMode_input (m : ChipMode) (s : State) : (setMode m s).input = s.input := by
  simp only [setMode]; split <;> [(split <;> simp); simp]

@[simp] theorem setMode_cfg (m : ChipMode) (s : State) : (setMode m s).cfg = s.cfg := by
  simp only [setMode]; split <;> [(split <;> simp); simp]

/-- Inside `ProcessFrame` the mode is ReceiveMode, and there `SetMode` only writes the mode (R25, R251). -/
theorem setMode_of_receiveMode (m : ChipMode) (s : State) (h : s.mode = .receiveMode) :
    setMode m s = s.writeMode m := by
  simp [setMode, h]

/-- `SetMode` of a mode other than ReceiveMode only writes it (R25). -/
theorem setMode_of_ne_receiveMode (m : ChipMode) (s : State) (h : m ≠ .receiveMode) : setMode m s = s.writeMode m := by
  simp [setMode, h]

/-- `SetMode` with nothing pending only writes the mode (R25). -/
theorem setMode_of_pending_none (m : ChipMode) (s : State) (h : s.pending = none) : setMode m s = s.writeMode m := by
  simp [setMode, h]

/-- The entry into ReceiveMode with a frame pending processes it (R25). -/
theorem setMode_entry (s : State) (f : List Byte) (h : s.mode ≠ .receiveMode) (hp : s.pending = some f) :
    setMode .receiveMode s = processFrame f { s.writeMode .receiveMode with pending := none } := by
  simp [setMode, h, hp]

/-! Receive (R250). -/

@[simp] theorem receiveFrame_bus (f : List Byte) (s : State) : (receiveFrame f s).bus = s.bus := by
  unfold receiveFrame; split <;> simp

@[simp] theorem receiveFrame_desc (f : List Byte) (s : State) : (receiveFrame f s).desc = s.desc := by
  unfold receiveFrame; split <;> simp

@[simp] theorem receiveFrame_bank (f : List Byte) (s : State) : (receiveFrame f s).bank = s.bank := by
  unfold receiveFrame; split <;> simp

@[simp] theorem receiveFrame_activePoly (f : List Byte) (s : State) : (receiveFrame f s).activePoly = s.activePoly := by
  unfold receiveFrame; split <;> simp

@[simp] theorem receiveFrame_activeSeed (f : List Byte) (s : State) : (receiveFrame f s).activeSeed = s.activeSeed := by
  unfold receiveFrame; split <;> simp

@[simp] theorem receiveFrame_txFifo (f : List Byte) (s : State) : (receiveFrame f s).txFifo = s.txFifo := by
  unfold receiveFrame; split <;> simp

@[simp] theorem receiveFrame_cs (f : List Byte) (s : State) : (receiveFrame f s).cs = s.cs := by
  unfold receiveFrame; split <;> simp

@[simp] theorem receiveFrame_refused (f : List Byte) (s : State) : (receiveFrame f s).refused = s.refused := by
  unfold receiveFrame; split <;> simp

@[simp] theorem receiveFrame_refusedReason (f : List Byte) (s : State) : (receiveFrame f s).refusedReason = s.refusedReason := by
  unfold receiveFrame; split <;> simp

@[simp] theorem receiveFrame_resp (f : List Byte) (s : State) : (receiveFrame f s).resp = s.resp := by
  unfold receiveFrame; split <;> simp

@[simp] theorem receiveFrame_input (f : List Byte) (s : State) : (receiveFrame f s).input = s.input := by
  unfold receiveFrame; split <;> simp

@[simp] theorem receiveFrame_cfg (f : List Byte) (s : State) : (receiveFrame f s).cfg = s.cfg := by
  unfold receiveFrame; split <;> simp

/-! The transmit of a popped header (R293 to R297). -/

@[simp] theorem sendFrame_bus (h : Byte) (l : List Byte) (s : State) : (sendFrame h l s).bus = s.bus := by
  simp [sendFrame]

@[simp] theorem sendFrame_desc (h : Byte) (l : List Byte) (s : State) : (sendFrame h l s).desc = s.desc := by
  simp [sendFrame]

@[simp] theorem sendFrame_bank (h : Byte) (l : List Byte) (s : State) : (sendFrame h l s).bank = s.bank := by
  simp [sendFrame]

@[simp] theorem sendFrame_activePoly (h : Byte) (l : List Byte) (s : State) : (sendFrame h l s).activePoly = s.activePoly := by
  simp [sendFrame]

@[simp] theorem sendFrame_activeSeed (h : Byte) (l : List Byte) (s : State) : (sendFrame h l s).activeSeed = s.activeSeed := by
  simp [sendFrame]

@[simp] theorem sendFrame_cs (h : Byte) (l : List Byte) (s : State) : (sendFrame h l s).cs = s.cs := by
  simp [sendFrame]

@[simp] theorem sendFrame_refused (h : Byte) (l : List Byte) (s : State) : (sendFrame h l s).refused = s.refused := by
  simp [sendFrame]

@[simp] theorem sendFrame_refusedReason (h : Byte) (l : List Byte) (s : State) : (sendFrame h l s).refusedReason = s.refusedReason := by
  simp [sendFrame]

@[simp] theorem sendFrame_resp (h : Byte) (l : List Byte) (s : State) : (sendFrame h l s).resp = s.resp := by
  simp [sendFrame]

@[simp] theorem sendFrame_input (h : Byte) (l : List Byte) (s : State) : (sendFrame h l s).input = s.input := by
  simp [sendFrame]

@[simp] theorem sendFrame_cfg (h : Byte) (l : List Byte) (s : State) : (sendFrame h l s).cfg = s.cfg := by
  simp [sendFrame]

/-! The header pop (R291). -/

@[simp] theorem popHeader_mode (s : State) : (popHeader s).2.2.mode = s.mode := by
  simp only [popHeader]; split <;> simp

@[simp] theorem popHeader_bus (s : State) : (popHeader s).2.2.bus = s.bus := by
  simp only [popHeader]; split <;> simp

@[simp] theorem popHeader_desc (s : State) : (popHeader s).2.2.desc = s.desc := by
  simp only [popHeader]; split <;> simp

@[simp] theorem popHeader_bank (s : State) : (popHeader s).2.2.bank = s.bank := by
  simp only [popHeader]; split <;> simp

@[simp] theorem popHeader_activePoly (s : State) : (popHeader s).2.2.activePoly = s.activePoly := by
  simp only [popHeader]; split <;> simp

@[simp] theorem popHeader_activeSeed (s : State) : (popHeader s).2.2.activeSeed = s.activeSeed := by
  simp only [popHeader]; split <;> simp

@[simp] theorem popHeader_rxFifo (s : State) : (popHeader s).2.2.rxFifo = s.rxFifo := by
  simp only [popHeader]; split <;> simp

@[simp] theorem popHeader_pending (s : State) : (popHeader s).2.2.pending = s.pending := by
  simp only [popHeader]; split <;> simp

@[simp] theorem popHeader_syncPulse (s : State) : (popHeader s).2.2.syncPulse = s.syncPulse := by
  simp only [popHeader]; split <;> simp

@[simp] theorem popHeader_txFullLatch (s : State) : (popHeader s).2.2.txFullLatch = s.txFullLatch := by
  simp only [popHeader]; split <;> simp

@[simp] theorem popHeader_cs (s : State) : (popHeader s).2.2.cs = s.cs := by
  simp only [popHeader]; split <;> simp

@[simp] theorem popHeader_gpio (s : State) : (popHeader s).2.2.gpio = s.gpio := by
  simp only [popHeader]; split <;> simp

@[simp] theorem popHeader_rssiTop (s : State) : (popHeader s).2.2.rssiTop = s.rssiTop := by
  simp only [popHeader]; split <;> simp

@[simp] theorem popHeader_lqi (s : State) : (popHeader s).2.2.lqi = s.lqi := by
  simp only [popHeader]; split <;> simp

@[simp] theorem popHeader_lastCrcOk (s : State) : (popHeader s).2.2.lastCrcOk = s.lastCrcOk := by
  simp only [popHeader]; split <;> simp

@[simp] theorem popHeader_refused (s : State) : (popHeader s).2.2.refused = s.refused := by
  simp only [popHeader]; split <;> simp

@[simp] theorem popHeader_refusedReason (s : State) : (popHeader s).2.2.refusedReason = s.refusedReason := by
  simp only [popHeader]; split <;> simp

@[simp] theorem popHeader_resp (s : State) : (popHeader s).2.2.resp = s.resp := by
  simp only [popHeader]; split <;> simp

@[simp] theorem popHeader_input (s : State) : (popHeader s).2.2.input = s.input := by
  simp only [popHeader]; split <;> simp

@[simp] theorem popHeader_draws (s : State) : (popHeader s).2.2.draws = s.draws := by
  simp only [popHeader]; split <;> simp

@[simp] theorem popHeader_cfg (s : State) : (popHeader s).2.2.cfg = s.cfg := by
  simp only [popHeader]; split <;> simp

/-! RunTx (R290). -/

@[simp] theorem runTx_bus (s : State) : (runTx s).bus = s.bus := by
  simp only [runTx]; split <;> simp

@[simp] theorem runTx_desc (s : State) : (runTx s).desc = s.desc := by
  simp only [runTx]; split <;> simp

@[simp] theorem runTx_bank (s : State) : (runTx s).bank = s.bank := by
  simp only [runTx]; split <;> simp

@[simp] theorem runTx_activePoly (s : State) : (runTx s).activePoly = s.activePoly := by
  simp only [runTx]; split <;> simp

@[simp] theorem runTx_activeSeed (s : State) : (runTx s).activeSeed = s.activeSeed := by
  simp only [runTx]; split <;> simp

@[simp] theorem runTx_cs (s : State) : (runTx s).cs = s.cs := by
  simp only [runTx]; split <;> simp

@[simp] theorem runTx_refused (s : State) : (runTx s).refused = s.refused := by
  simp only [runTx]; split <;> simp

@[simp] theorem runTx_refusedReason (s : State) : (runTx s).refusedReason = s.refusedReason := by
  simp only [runTx]; split <;> simp

@[simp] theorem runTx_resp (s : State) : (runTx s).resp = s.resp := by
  simp only [runTx]; split <;> simp

@[simp] theorem runTx_input (s : State) : (runTx s).input = s.input := by
  simp only [runTx]; split <;> simp

@[simp] theorem runTx_cfg (s : State) : (runTx s).cfg = s.cfg := by
  simp only [runTx]; split <;> simp

/-- `RunTx` leaves the TX FIFO empty, sent or aborted (R292, R294). -/
@[simp] theorem runTx_txFifo (s : State) : (runTx s).txFifo = [] := by
  simp only [runTx]
  split <;> simp [sendFrame]

/-! The start of a transfer (R150, R151). -/

@[simp] theorem beginTransfer_mode (s : State) : (beginTransfer s).mode = s.mode := by
  simp only [beginTransfer, preCheck]; split <;> (split <;> simp)

@[simp] theorem beginTransfer_bus (s : State) : (beginTransfer s).bus = s.bus := by
  simp only [beginTransfer, preCheck]; split <;> (split <;> simp)

@[simp] theorem beginTransfer_desc (s : State) : (beginTransfer s).desc = s.desc := by
  simp only [beginTransfer, preCheck]; split <;> (split <;> simp)

@[simp] theorem beginTransfer_bank (s : State) : (beginTransfer s).bank = s.bank := by
  simp only [beginTransfer, preCheck]; split <;> (split <;> simp)

@[simp] theorem beginTransfer_activePoly (s : State) : (beginTransfer s).activePoly = s.activePoly := by
  simp only [beginTransfer, preCheck]; split <;> (split <;> simp)

@[simp] theorem beginTransfer_activeSeed (s : State) : (beginTransfer s).activeSeed = s.activeSeed := by
  simp only [beginTransfer, preCheck]; split <;> (split <;> simp)

@[simp] theorem beginTransfer_rxFifo (s : State) : (beginTransfer s).rxFifo = s.rxFifo := by
  simp only [beginTransfer, preCheck]; split <;> (split <;> simp)

@[simp] theorem beginTransfer_txFifo (s : State) : (beginTransfer s).txFifo = s.txFifo := by
  simp only [beginTransfer, preCheck]; split <;> (split <;> simp)

@[simp] theorem beginTransfer_pending (s : State) : (beginTransfer s).pending = s.pending := by
  simp only [beginTransfer, preCheck]; split <;> (split <;> simp)

@[simp] theorem beginTransfer_syncPulse (s : State) : (beginTransfer s).syncPulse = s.syncPulse := by
  simp only [beginTransfer, preCheck]; split <;> (split <;> simp)

@[simp] theorem beginTransfer_txFullLatch (s : State) : (beginTransfer s).txFullLatch = s.txFullLatch := by
  simp only [beginTransfer, preCheck]; split <;> (split <;> simp)

@[simp] theorem beginTransfer_cs (s : State) : (beginTransfer s).cs = s.cs := by
  simp only [beginTransfer, preCheck]; split <;> (split <;> simp)

@[simp] theorem beginTransfer_gpio (s : State) : (beginTransfer s).gpio = s.gpio := by
  simp only [beginTransfer, preCheck]; split <;> (split <;> simp)

@[simp] theorem beginTransfer_rssiTop (s : State) : (beginTransfer s).rssiTop = s.rssiTop := by
  simp only [beginTransfer, preCheck]; split <;> (split <;> simp)

@[simp] theorem beginTransfer_lqi (s : State) : (beginTransfer s).lqi = s.lqi := by
  simp only [beginTransfer, preCheck]; split <;> (split <;> simp)

@[simp] theorem beginTransfer_lastCrcOk (s : State) : (beginTransfer s).lastCrcOk = s.lastCrcOk := by
  simp only [beginTransfer, preCheck]; split <;> (split <;> simp)

@[simp] theorem beginTransfer_refused (s : State) : (beginTransfer s).refused = s.refused := by
  simp only [beginTransfer, preCheck]; split <;> (split <;> simp)

@[simp] theorem beginTransfer_refusedReason (s : State) : (beginTransfer s).refusedReason = s.refusedReason := by
  simp only [beginTransfer, preCheck]; split <;> (split <;> simp)

@[simp] theorem beginTransfer_input (s : State) : (beginTransfer s).input = s.input := by
  simp only [beginTransfer, preCheck]; split <;> (split <;> simp)

@[simp] theorem beginTransfer_draws (s : State) : (beginTransfer s).draws = s.draws := by
  simp only [beginTransfer, preCheck]; split <;> (split <;> simp)

@[simp] theorem beginTransfer_cfg (s : State) : (beginTransfer s).cfg = s.cfg := by
  simp only [beginTransfer, preCheck]; split <;> (split <;> simp)

@[simp] theorem beginTransfer_resp (s : State) : (beginTransfer s).resp = none := by
  simp only [beginTransfer, preCheck]
  split <;> (split <;> simp)

/-! The end of a transfer (R151). -/

@[simp] theorem endTransfer_mode (r : Byte) (s : State) : (endTransfer r s).mode = s.mode := by
  simp [endTransfer]

@[simp] theorem endTransfer_bus (r : Byte) (s : State) : (endTransfer r s).bus = s.bus := by
  simp [endTransfer]

@[simp] theorem endTransfer_desc (r : Byte) (s : State) : (endTransfer r s).desc = s.desc := by
  simp [endTransfer]

@[simp] theorem endTransfer_bank (r : Byte) (s : State) : (endTransfer r s).bank = s.bank := by
  simp [endTransfer]

@[simp] theorem endTransfer_activePoly (r : Byte) (s : State) : (endTransfer r s).activePoly = s.activePoly := by
  simp [endTransfer]

@[simp] theorem endTransfer_activeSeed (r : Byte) (s : State) : (endTransfer r s).activeSeed = s.activeSeed := by
  simp [endTransfer]

@[simp] theorem endTransfer_rxFifo (r : Byte) (s : State) : (endTransfer r s).rxFifo = s.rxFifo := by
  simp [endTransfer]

@[simp] theorem endTransfer_txFifo (r : Byte) (s : State) : (endTransfer r s).txFifo = s.txFifo := by
  simp [endTransfer]

@[simp] theorem endTransfer_pending (r : Byte) (s : State) : (endTransfer r s).pending = s.pending := by
  simp [endTransfer]

@[simp] theorem endTransfer_cs (r : Byte) (s : State) : (endTransfer r s).cs = s.cs := by
  simp [endTransfer]

@[simp] theorem endTransfer_rssiTop (r : Byte) (s : State) : (endTransfer r s).rssiTop = s.rssiTop := by
  simp [endTransfer]

@[simp] theorem endTransfer_lqi (r : Byte) (s : State) : (endTransfer r s).lqi = s.lqi := by
  simp [endTransfer]

@[simp] theorem endTransfer_lastCrcOk (r : Byte) (s : State) : (endTransfer r s).lastCrcOk = s.lastCrcOk := by
  simp [endTransfer]

@[simp] theorem endTransfer_refused (r : Byte) (s : State) : (endTransfer r s).refused = s.refused := by
  simp [endTransfer]

@[simp] theorem endTransfer_refusedReason (r : Byte) (s : State) : (endTransfer r s).refusedReason = s.refusedReason := by
  simp [endTransfer]

@[simp] theorem endTransfer_input (r : Byte) (s : State) : (endTransfer r s).input = s.input := by
  simp [endTransfer]

@[simp] theorem endTransfer_draws (r : Byte) (s : State) : (endTransfer r s).draws = s.draws := by
  simp [endTransfer]

@[simp] theorem endTransfer_cfg (r : Byte) (s : State) : (endTransfer r s).cfg = s.cfg := by
  simp [endTransfer]

@[simp] theorem endTransfer_resp (r : Byte) (s : State) : (endTransfer r s).resp = some r := rfl
@[simp] theorem endTransfer_syncPulse (r : Byte) (s : State) : (endTransfer r s).syncPulse = 0 := rfl
@[simp] theorem endTransfer_miso (r : Byte) (s : State) : (endTransfer r s).gpio.miso = !s.cs := by
  simp [endTransfer]

/-- The status byte is read from the configuration and the mode (R26). -/
theorem status_congr {s t : State} (hc : s.cfg = t.cfg) (hm : s.mode = t.mode) : status s = status t := by
  simp [status, hc, hm]

@[simp] theorem status_beginTransfer (s : State) : status (beginTransfer s) = status s :=
  status_congr (by simp) (by simp)

end Sys2Proof.Machine
end

