-- ==== Sys2Proof/Laws/Refresh.lean ====
section
/-!
SUPPORT. What Refresh (45_gpio_mux.md R310) does to the trace, the levels and the latch, said once.
-/

set_option Elab.async false

namespace Sys2Proof.Machine

@[simp] theorem lineRole_refreshLine (i j : Line) (s : State) : lineRole (refreshLine i s) j = lineRole s j :=
  lineRole_congr (by simp) (by simp) _

@[simp] theorem lineRole_updateTxFullLatch (j : Line) (s : State) : lineRole (updateTxFullLatch s) j = lineRole s j :=
  lineRole_congr (by simp) (by simp) _

/-- One line adds its log or its blink to the trace (R316, R320). -/
theorem refreshLine_out (i : Line) (s : State) : (refreshLine i s).out = s.out ++
    (if lineRole s i = .unsupported then [.log .unsupportedGpioRole]
    else if lineRole s i = .pktSync ∧ s.syncPulse > 0 then [.blink i] else []) := by
  simp only [refreshLine]
  cases h : lineRole s i <;> simp [roleLevel, State.driveLine, State.log]
  all_goals (split <;> simp_all [State.emit])

/-- Refresh adds the entries of lines 0 to 3, in order, to the trace. -/
theorem refresh_out (s : State) : (refresh s).out = s.out ++
    [Line.line0, .line1, .line2, .line3].flatMap fun i =>
      if lineRole s i = .unsupported then [.log .unsupportedGpioRole]
      else if lineRole s i = .pktSync ∧ s.syncPulse > 0 then [.blink i]
      else [] := by
  simp only [refresh, refreshMiso, refreshLine_out, lineRole_refreshLine, lineRole_updateTxFullLatch,
    refreshLine_syncPulse, updateTxFullLatch_out, updateTxFullLatch_syncPulse]
  simp

/-- One line sets its own level and no other. -/
theorem refreshLine_get (i j : Line) (s : State) : (refreshLine i s).gpio.get j =
    if i = j then
      (match roleLevel s (lineRole s i) with
      | some v => invLevel s i v
      | none => s.gpio.get i)
    else s.gpio.get j := by
  have h : ∀ (t : State) e k v, invLevel (t.emit e) k v = invLevel t k v := fun _ _ _ _ => invLevel_congr rfl rfl _ _
  simp only [refreshLine]
  cases hr : lineRole s i <;> simp [roleLevel, State.driveLine]
  all_goals (try split)
  all_goals simp_all [Gpio.set]
  all_goals (cases i <;> cases j <;> simp_all [Gpio.get])

/-- The latch after Refresh (R315). -/
theorem refresh_latch (s : State) : (refresh s).txFullLatch =
    if s.txFifo.length = s.cfg.fifoCapacity then true
    else if s.txFifo.length < txThreshold s then false
    else s.txFullLatch := by
  simp only [refresh_txFullLatch, updateTxFullLatch]
  by_cases h1 : s.txFifo.length = s.cfg.fifoCapacity <;> by_cases h2 : s.txFifo.length < txThreshold s <;> simp [h1, h2]

/-- The level of each configurable line after Refresh: that of its role, inverted where INV is honoured, or the level of
before for an unsupported role (R310 to R321). -/
theorem refresh_get (s : State) (i : Line) : (refresh s).gpio.get i =
    match roleLevel (refresh s) (lineRole s i) with
    | some v => invLevel s i v
    | none => s.gpio.get i := by
  have hl : ∀ r, roleLevel (refresh s) r = roleLevel (updateTxFullLatch s) r := fun r => by
    apply roleLevel_congr <;> simp
  have h1 : ∀ r j (t : State), roleLevel (refreshLine j t) r = roleLevel t r := fun r j t => by
    apply roleLevel_congr <;> simp
  have h2 : ∀ k j v (t : State), invLevel (refreshLine j t) k v = invLevel t k v := fun _ _ _ _ =>
    invLevel_congr (by simp) (by simp) _ _
  have h3 : ∀ k v (t : State), invLevel (updateTxFullLatch t) k v = invLevel t k v := fun _ _ _ =>
    invLevel_congr (by simp) (by simp) _ _
  have h4 : ∀ (t : State) k, (refreshMiso t).gpio.get k = t.gpio.get k := fun _ k => by cases k <;> rfl
  rw [hl]
  simp only [refresh, h4, refreshLine_get, lineRole_refreshLine, lineRole_updateTxFullLatch, h1, h2, h3,
    updateTxFullLatch_gpio]
  cases i <;> simp

end Sys2Proof.Machine
end

