-- ==== Sys2Proof/Laws/Receive.lean ====
section
/-!
SUPPORT. The receive and transmit pipelines case by case (43_frame_receive.md R251 to R276, 44_frame_transmit.md R290 to
R297): one lemma per way through, so that no proof unfolds a pipeline.
-/

set_option Elab.async false

namespace Sys2Proof.Machine

/-- A short frame is only logged (R252). -/
theorem processFrame_short {f : List Byte} {s : State} (h : f.length ≤ 2) :
    processFrame f s = (drawSignal s).log .shortFrame := by
  unfold processFrame
  simp [h]

/-- A frame that fails the length step is dropped (R255 to R260). -/
theorem processFrame_badLength {f : List Byte} {s : State} {c : DiagCode} (h : ¬f.length ≤ 2)
    (hl : lengthDrop (drawSignal s) (declaredLength (drawSignal s) f) = some c) :
    processFrame f s = dropFrame c (drawSignal s) := by
  unfold processFrame
  simp [h, hl]

/-- A frame that fails the address step is dropped (R261). -/
theorem processFrame_badAddress {f : List Byte} {s : State} (h : ¬f.length ≤ 2)
    (hl : lengthDrop (drawSignal s) (declaredLength (drawSignal s) f) = none)
    (ha : addressRejects (drawSignal s) f = true) :
    processFrame f s = dropFrame .badAddress (drawSignal s) := by
  unfold processFrame
  simp [h, hl, ha]

/-- A frame that passes the first three steps reaches the CRC step. -/
theorem processFrame_checked {f : List Byte} {s : State} (h : ¬f.length ≤ 2)
    (hl : lengthDrop (drawSignal s) (declaredLength (drawSignal s) f) = none)
    (ha : addressRejects (drawSignal s) f = false) :
    processFrame f s = checkCrcStep f (drawSignal s) := by
  unfold processFrame
  simp [h, hl, ha]

/-- The CRC step of a good frame (R266). -/
theorem checkCrcStep_ok {f : List Byte} {s : State} (h : crcCheck s f = true) :
    checkCrcStep f s = acceptFrame f { s with lastCrcOk := true } := by
  unfold checkCrcStep
  simp [h]

/-- The CRC step of a bad frame under CRC_AUTOFLUSH (R267). -/
theorem checkCrcStep_dropped {f : List Byte} {s : State} (h : crcCheck s f = false) (ha : crcAutoflush s = true) :
    checkCrcStep f s = dropFrame .badCrc { s with lastCrcOk := false } := by
  have : crcAutoflush { s with lastCrcOk := false } = true := ha
  unfold checkCrcStep
  simp [h, this]

/-- The CRC step of a bad frame without CRC_AUTOFLUSH (R267). -/
theorem checkCrcStep_kept {f : List Byte} {s : State} (h : crcCheck s f = false) (ha : crcAutoflush s = false) :
    checkCrcStep f s = acceptFrame f (({ s with lastCrcOk := false } : State).log .crcMismatchKept) := by
  have : crcAutoflush { s with lastCrcOk := false } = false := ha
  unfold checkCrcStep
  simp [h, this]

/-- What a frame's bytes do to the RX FIFO and the trace (R87, R271). -/
theorem enqueueAll_rx_eq : ∀ (l : List Byte) (s : State), s.rxFifo.length ≤ s.cfg.fifoCapacity →
    enqueueAll .rx l s = { s with
      rxFifo := (s.rxFifo ++ l).take s.cfg.fifoCapacity
      out := s.out ++ List.replicate (s.rxFifo.length + l.length - s.cfg.fifoCapacity) (.log .rxOverflow) }
  | [], s, h => by
    rw [enqueueAll]
    apply State.ext <;> simp <;> first | exact h | omega
  | v :: l, s, h => by
    rw [enqueueAll]
    by_cases hf : s.rxFifo.length = s.cfg.fifoCapacity
    · have he : enqueue .rx v s = s.log .rxOverflow := by simp [enqueue, State.fifo, hf, overflowCode]
      rw [he, enqueueAll_rx_eq l _ (by simpa using h)]
      apply State.ext <;> simp
      · rw [List.take_append_of_le_length (by omega), List.take_append_of_le_length (by omega)]
      · have e1 : s.rxFifo.length + l.length - s.cfg.fifoCapacity = l.length := by omega
        have e2 : s.rxFifo.length + (l.length + 1) - s.cfg.fifoCapacity = l.length + 1 := by omega
        rw [e1, e2, List.replicate_succ]
    · have he : enqueue .rx v s = { s with rxFifo := s.rxFifo ++ [v] } := by
        simp [enqueue, State.fifo, hf, State.setFifo]
      rw [he, enqueueAll_rx_eq l _ (by simp; omega)]
      apply State.ext <;> simp
      omega

/-- The acknowledgment step only adds to the trace (R273). -/
theorem maybeAck_eq (f : List Byte) (s : State) : maybeAck f s = { s with
    out := s.out ++ (if ackWanted s f then [.frameSent (ackFrame s (macSequence (mpdu s f)))] else []) } := by
  simp only [maybeAck]
  split <;> simp [State.emit]

/-- The trace of a pulse and its Refresh (R275, R297). -/
theorem pulseSync_out (s : State) : (pulseSync s).out = s.out ++
    [Line.line0, .line1, .line2, .line3].flatMap fun i =>
      if lineRole s i = .unsupported then [.log .unsupportedGpioRole]
      else if lineRole s i = .pktSync then [.blink i]
      else [] := by
  have h : ∀ i, lineRole { s with syncPulse := s.syncPulse + 1 } i = lineRole s i := fun _ => rfl
  simp [pulseSync, refresh_out, h]

/-- The header pop: its bytes, 0x00 where the TX FIFO has none, and one log for each missing one (R291). -/
theorem popHeader_eq (s : State) : popHeader s =
    (s.txFifo.headD 0x00, (if gMode s then [s.txFifo.tail.headD 0x00] else []),
      { s with
        txFifo := if gMode s then s.txFifo.tail.tail else s.txFifo.tail
        out := s.out ++ List.replicate (headerLength s - s.txFifo.length) (.log .txUnderflow) }) := by
  have h : ∀ t : State, dequeue .tx t = (t.txFifo.headD 0x00, { t with
      txFifo := t.txFifo.tail, out := t.out ++ (if t.txFifo = [] then [.log .txUnderflow] else []) }) := by
    intro t
    rcases hl : t.txFifo with _ | ⟨a, l⟩ <;>
      simp [dequeue, State.fifo, hl, underflowCode, State.log, State.emit, State.setFifo]
  simp only [popHeader, headerLength, h]
  cases hg : gMode s <;> rcases hl : s.txFifo with _ | ⟨a, _ | ⟨b, l⟩⟩ <;> simp [List.replicate]

end Sys2Proof.Machine
end

