-- ==== Sys2Proof/Laws/Exec.lean ====
section
/-!
SUPPORT. What an instruction can do, said once: `exec_next` lists the ways an instruction answers a next state, and the
lemmas before it say what each way leaves. The bus state and the descriptor pass through every operation of a strobe and of
a frame untouched (`…_setBus`), so what a strobe does is its command's alone (`strobeHeader_eq`).
-/

set_option Elab.async false

namespace Sys2Proof.Machine

/-! ### The bus state passes through -/

theorem updateTxFullLatch_setBus (s : State) (b : BusState) (d : Option AccessDescriptor) :
    updateTxFullLatch (s.setBus b d) = (updateTxFullLatch s).setBus b d := by
  unfold updateTxFullLatch
  by_cases h1 : s.txFifo.length = s.cfg.fifoCapacity
  · rw [if_pos h1, if_pos (show (s.setBus b d).txFifo.length = (s.setBus b d).cfg.fifoCapacity from h1)]; rfl
  · rw [if_neg h1, if_neg (show ¬(s.setBus b d).txFifo.length = (s.setBus b d).cfg.fifoCapacity from h1)]
    by_cases h2 : s.txFifo.length < txThreshold s
    · rw [if_pos h2, if_pos (show (s.setBus b d).txFifo.length < txThreshold (s.setBus b d) from h2)]; rfl
    · rw [if_neg h2, if_neg (show ¬(s.setBus b d).txFifo.length < txThreshold (s.setBus b d) from h2)]

theorem refreshLine_setBus (i : Line) (s : State) (b : BusState) (d : Option AccessDescriptor) :
    refreshLine i (s.setBus b d) = (refreshLine i s).setBus b d := by
  have h1 : lineRole (s.setBus b d) i = lineRole s i := rfl
  have h2 : ∀ r, roleLevel (s.setBus b d) r = roleLevel s r := fun _ => rfl
  unfold refreshLine
  simp only [h2, h1]
  generalize roleLevel s (lineRole s i) = x
  by_cases h : lineRole s i = .pktSync ∧ s.syncPulse > 0
  · have h' : lineRole s i = .pktSync ∧ (s.setBus b d).syncPulse > 0 := h
    simp only [h, h']; cases x <;> rfl
  · have h' : ¬(lineRole s i = .pktSync ∧ (s.setBus b d).syncPulse > 0) := h
    simp only [h, h', if_false]; cases x <;> rfl

theorem refresh_setBus (s : State) (b : BusState) (d : Option AccessDescriptor) :
    refresh (s.setBus b d) = (refresh s).setBus b d := by
  simp only [refresh, updateTxFullLatch_setBus, refreshLine_setBus]
  generalize refreshLine _ _ = w
  rfl

theorem pulseSync_setBus (s : State) (b : BusState) (d : Option AccessDescriptor) :
    pulseSync (s.setBus b d) = (pulseSync s).setBus b d := by
  simp only [pulseSync]
  rw [← refresh_setBus]; rfl

theorem dropFrame_setBus (c : DiagCode) (s : State) (b : BusState) (d : Option AccessDescriptor) :
    dropFrame c (s.setBus b d) = (dropFrame c s).setBus b d := by
  simp only [dropFrame]
  have h1 : termOnBadPacket ((s.setBus b d).log c) = termOnBadPacket (s.log c) := rfl
  rw [h1]; cases termOnBadPacket (s.log c) <;> rfl

theorem enqueue_setBus (q : Fifo) (v : Byte) (s : State) (b : BusState) (d : Option AccessDescriptor) :
    enqueue q v (s.setBus b d) = (enqueue q v s).setBus b d := by
  have hf : (s.setBus b d).fifo q = s.fifo q := by cases q <;> rfl
  unfold enqueue
  rw [hf, setBus_cfg]
  split
  · rfl
  · cases q <;> rfl

theorem enqueueAll_setBus (q : Fifo) : ∀ (l : List Byte) (s : State) (b : BusState) (d : Option AccessDescriptor),
    enqueueAll q l (s.setBus b d) = (enqueueAll q l s).setBus b d
  | [], _, _, _ => rfl
  | v :: l, s, b, d => by simp only [enqueueAll]; rw [enqueue_setBus, enqueueAll_setBus q l]

theorem maybeAck_setBus (f : List Byte) (s : State) (b : BusState) (d : Option AccessDescriptor) :
    maybeAck f (s.setBus b d) = (maybeAck f s).setBus b d := by
  simp only [maybeAck]
  have h1 : ackWanted (s.setBus b d) f = ackWanted s f := rfl
  rw [h1]; cases ackWanted s f <;> rfl

theorem acceptFrame_setBus (f : List Byte) (s : State) (b : BusState) (d : Option AccessDescriptor) :
    acceptFrame f (s.setBus b d) = (acceptFrame f s).setBus b d := by
  simp only [acceptFrame]
  have h1 : rxBody (s.setBus b d) f = rxBody s f := rfl
  have h2 : ∀ u : State, (u.setBus b d).writeMode (offMode (rxoffMode (u.setBus b d))) =
      (u.writeMode (offMode (rxoffMode u))).setBus b d := fun _ => rfl
  rw [h1, enqueueAll_setBus, h2, maybeAck_setBus, pulseSync_setBus]

theorem checkCrcStep_setBus (f : List Byte) (s : State) (b : BusState) (d : Option AccessDescriptor) :
    checkCrcStep f (s.setBus b d) = (checkCrcStep f s).setBus b d := by
  have h1 : crcCheck (s.setBus b d) f = crcCheck s f := rfl
  have h2 : crcAutoflush (s.setBus b d) = crcAutoflush s := rfl
  cases hc : crcCheck s f
  · cases ha : crcAutoflush s
    · rw [checkCrcStep_kept hc ha, checkCrcStep_kept (h1.trans hc) (h2.trans ha), ← acceptFrame_setBus]; rfl
    · rw [checkCrcStep_dropped hc ha, checkCrcStep_dropped (h1.trans hc) (h2.trans ha), ← dropFrame_setBus]; rfl
  · rw [checkCrcStep_ok hc, checkCrcStep_ok (h1.trans hc), ← acceptFrame_setBus]; rfl

theorem processFrame_setBus (f : List Byte) (s : State) (b : BusState) (d : Option AccessDescriptor) :
    processFrame f (s.setBus b d) = (processFrame f s).setBus b d := by
  have h0 : drawSignal (s.setBus b d) = (drawSignal s).setBus b d := rfl
  have h1 : lengthDrop (drawSignal (s.setBus b d)) (declaredLength (drawSignal (s.setBus b d)) f) =
      lengthDrop (drawSignal s) (declaredLength (drawSignal s) f) := rfl
  have h2 : addressRejects (drawSignal (s.setBus b d)) f = addressRejects (drawSignal s) f := rfl
  by_cases h : f.length ≤ 2
  · rw [processFrame_short h, processFrame_short h]; rfl
  · rcases hl : lengthDrop (drawSignal s) (declaredLength (drawSignal s) f) with _ | c
    · rcases ha : addressRejects (drawSignal s) f with _ | _
      · rw [processFrame_checked h hl ha, processFrame_checked h (h1.trans hl) (h2.trans ha), h0, checkCrcStep_setBus]
      · rw [processFrame_badAddress h hl ha, processFrame_badAddress h (h1.trans hl) (h2.trans ha), h0,
          dropFrame_setBus]
    · rw [processFrame_badLength h hl, processFrame_badLength h (h1.trans hl), h0, dropFrame_setBus]

theorem setMode_setBus (m : ChipMode) (s : State) (b : BusState) (d : Option AccessDescriptor) :
    setMode m (s.setBus b d) = (setMode m s).setBus b d := by
  by_cases h : m = .receiveMode
  · subst h
    by_cases h1 : s.mode = .receiveMode
    · rw [setMode_of_receiveMode _ _ h1, setMode_of_receiveMode _ (s.setBus b d) h1]; rfl
    · rcases h2 : s.pending with _ | f
      · rw [setMode_of_pending_none _ _ h2, setMode_of_pending_none _ (s.setBus b d) h2]; rfl
      · rw [setMode_entry _ _ h1 h2, setMode_entry (s.setBus b d) _ h1 h2, ← processFrame_setBus]; rfl
  · rw [setMode_of_ne_receiveMode _ _ h, setMode_of_ne_receiveMode _ _ h]; rfl

theorem sendFrame_setBus (h : Byte) (l : List Byte) (s : State) (b : BusState) (d : Option AccessDescriptor) :
    sendFrame h l (s.setBus b d) = (sendFrame h l s).setBus b d := by
  simp only [sendFrame]
  rw [← pulseSync_setBus, ← setMode_setBus]; rfl

theorem runTx_setBus (s : State) (b : BusState) (d : Option AccessDescriptor) :
    runTx (s.setBus b d) = (runTx s).setBus b d := by
  have hp : popHeader (s.setBus b d) =
      ((popHeader s).1, (popHeader s).2.1, (popHeader s).2.2.setBus b d) := by
    rw [popHeader_eq, popHeader_eq]; rfl
  simp only [runTx, hp]
  generalize (popHeader s).1 = h0
  generalize (popHeader s).2.1 = t0
  generalize (popHeader s).2.2 = u
  have h1 : (gMode (u.setBus b d) && modeSwitchBit (u.setBus b d) h0) = (gMode u && modeSwitchBit u h0) := rfl
  rw [h1]
  split
  · rfl
  · rw [sendFrame_setBus]

/-! ### Strobes -/

/-- The command of a strobe, where `SetMode` of a mode other than ReceiveMode only writes it. -/
theorem execStrobe_eq (t : Target) (s : State) : execStrobe t s =
    match strobeOf s.cfg t with
    | .reset => deviceReset true s
    | .calibrate => s.writeMode .fastTxReady
    | .enableRx => setMode .receiveMode s
    | .enableTx => runTx (s.writeMode .transmitMode)
    | .goIdle => s.writeMode .idle
    | .sleep => s.writeMode .off
    | .flushRx => clearFifo .rx s
    | .flushTx => clearFifo .tx s
    | .noOperation => s
    | .unknown => s.log .unknownStrobe := by
  unfold execStrobe
  cases strobeOf s.cfg t <;> rfl

/-- A command ends the same whatever access it began in. -/
theorem execStrobe_setBus (t : Target) (s : State) (b b' : BusState) (d d' : Option AccessDescriptor) :
    (execStrobe t (s.setBus b d)).setBus b' d' = (execStrobe t s).setBus b' d' := by
  simp only [execStrobe_eq, setBus_cfg]
  cases strobeOf s.cfg t
  case enableRx => simp only [setMode_setBus]; rfl
  case enableTx =>
    have h : (s.setBus b d).writeMode .transmitMode = (s.writeMode .transmitMode).setBus b d := rfl
    simp only [h, runTx_setBus]; rfl
  all_goals rfl

/-- A strobe header is the command of its code between the start and the end of a transfer (R168). -/
theorem strobeHeader_eq (t : Target) (rw b : Bool) (s : State) : strobeHeader t rw b s =
    endTransfer (status s) ((execStrobe t (beginTransfer s)).setBus .waitingForHeader none) := by
  simp only [strobeHeader, execStrobe_setBus, status_beginTransfer]

/-- What a strobe instruction does is the strobe header of its code. -/
theorem exec_strobe {t : Target} {rw b : Bool} {i : Instr} (h : decodeStrobe t rw b = some i) (s : State) :
    exec i s = .next (strobeHeader t rw b s) := by
  have key : ∀ n, t.toNat = n → t = BitVec.ofNat 6 n := by
    intro n hn
    apply BitVec.eq_of_toNat_eq
    have := t.isLt
    simp
    omega
  unfold decodeStrobe at h
  split at h
  all_goals first | (rename_i hn; cases h; rw [key _ hn]; rfl) | cases h

/-! ### What the parts of a transfer leave -/

/-- The logs a transfer starts with (R150). -/
theorem beginTransfer_out (s : State) : (beginTransfer s).out =
    (if s.cs then [] else [.log .notSelected]) ++ (if s.mode = .off then [.log .accessWhileOff] else []) := by
  simp only [beginTransfer, preCheck]
  cases hc : s.cs <;> by_cases h : s.mode = .off <;> simp [h, hc]

/-- The start of a transfer writes the response and the trace (R151). -/
theorem beginTransfer_eq (s : State) :
    beginTransfer s = { s with resp := none, out := (beginTransfer s).out } := by
  apply State.ext <;> simp

/-- A data byte writes at most the bank, the pair, the TX FIFO, the mark and the trace (R170 to R174). -/
theorem dataWrite_eq {d : AccessDescriptor} {b : Byte} {s t : State} (h : dataWrite d b s = some t) : t = { s with
    bank := t.bank, activePoly := t.activePoly, activeSeed := t.activeSeed, txFifo := t.txFifo
    refused := t.refused, refusedReason := t.refusedReason, out := t.out } := by
  simp only [dataWrite] at h
  split at h <;> simp only [Option.some.injEq, reduceCtorEq] at h <;> subst h
  · apply State.ext <;> simp
  · apply State.ext <;> simp
  · apply State.ext <;> simp
  all_goals (simp only [dataWriteDirect]; split <;> rfl)

/-- A read-out byte writes at most the RX FIFO, the mark, the trace and the count of draws (R175 to R179). -/
theorem readoutData_eq {d : AccessDescriptor} {r : Byte} {s t : State} (h : readoutData d s = some (r, t)) :
    t = { s with
      rxFifo := t.rxFifo, refused := t.refused, refusedReason := t.refusedReason, out := t.out, draws := t.draws } := by
  have key : ∀ x : Byte × State, some x = some (r, t) → t = x.2 := fun x hx => by injection hx with hx; rw [hx]
  simp only [readoutData] at h
  split at h <;> first | (rw [key _ h]) | exact absurd h (by simp)
  · simp only [regRead]; split <;> rfl
  · simp only [regRead]; split <;> rfl
  · apply State.ext <;> simp [dequeue_rx]
  all_goals (simp only [readoutDirect, drawByte]; split <;> rfl)

/-- The end of a phase writes the bus state and the descriptor (R180). -/
theorem phaseEnd_eq (d : AccessDescriptor) (s : State) :
    phaseEnd d s = s.setBus (phaseEnd d s).bus (phaseEnd d s).desc := by
  simp only [phaseEnd]
  split <;> rfl

/-! ### Every way an instruction answers a next state -/

/-- The next states of an instruction: a header that opens an access, a strobe, the three operand bytes, chip select, a
frame, power-on reset. -/
theorem exec_next {i : Instr} {s t : State} (h : exec i s = .next t) :
    (∃ a rd b, i.isEvent = false ∧ (∀ c rw b', decodeStrobe c rw b' ≠ some i) ∧ readIn i = .waitingForHeader ∧
      (i.wf = true → ∀ fec, decodeTarget fec a ≠ .commandStrobe) ∧ t = accessHeader a rd b s) ∨
    (∃ c rw b, i.isEvent = false ∧ decodeStrobe c rw b = some i ∧ t = strobeHeader c rw b s) ∨
    (∃ x d, i = .addrByte x ∧ s.desc = some d ∧
      t = endTransfer 0x00 ((beginTransfer s).setBus (busAfterAddress d.isRead) (some { d with addr := x }))) ∨
    (∃ b d v, i = .dataByte b ∧ s.desc = some d ∧ dataWrite d b (beginTransfer s) = some v ∧
      t = endTransfer (status s) (phaseEnd d v)) ∨
    (∃ b d r v, i = .readoutByte b ∧ s.desc = some d ∧ readoutData d (beginTransfer s) = some (r, v) ∧
      t = endTransfer r (phaseEnd d v)) ∨
    (∃ l, i = .setCs l ∧ t = setChipSelect l s) ∨
    (∃ f, i = .receive f ∧ t = refresh (receiveFrame f s.beginEvent)) ∨
    (i = .powerOnReset ∧ t = deviceReset false s.beginEvent) := by
  have hs : ∀ {c rw b}, decodeStrobe c rw b = some i →
      ∃ c rw b, i.isEvent = false ∧ decodeStrobe c rw b = some i ∧ t = strobeHeader c rw b s := by
    intro c rw b hd
    refine ⟨c, rw, b, ?_, hd, ?_⟩
    · unfold decodeStrobe at hd; split at hd <;> cases hd <;> rfl
    · rw [exec_strobe hd s] at h; exact (Host.Outcome.next.inj h).symm
  have std : ∀ a : Target, stdAddressOk a = true → ∀ fec, decodeTarget fec a ≠ .commandStrobe := by decide
  have fix : ∀ a : Target, a = 0x2F ∨ a = 0x3E ∨ a = 0x3F → ∀ fec, decodeTarget fec a ≠ .commandStrobe := by decide
  cases i
  case sres rw b => exact Or.inr (Or.inl (hs (c := 0x30) (rw := rw) (b := b) rfl))
  case sfstxon rw b => exact Or.inr (Or.inl (hs (c := 0x31) (rw := rw) (b := b) rfl))
  case sxoff rw b => exact Or.inr (Or.inl (hs (c := 0x32) (rw := rw) (b := b) rfl))
  case scal rw b => exact Or.inr (Or.inl (hs (c := 0x33) (rw := rw) (b := b) rfl))
  case srx rw b => exact Or.inr (Or.inl (hs (c := 0x34) (rw := rw) (b := b) rfl))
  case stx rw b => exact Or.inr (Or.inl (hs (c := 0x35) (rw := rw) (b := b) rfl))
  case sidle rw b => exact Or.inr (Or.inl (hs (c := 0x36) (rw := rw) (b := b) rfl))
  case safc rw b => exact Or.inr (Or.inl (hs (c := 0x37) (rw := rw) (b := b) rfl))
  case swor rw b => exact Or.inr (Or.inl (hs (c := 0x38) (rw := rw) (b := b) rfl))
  case spwd rw b => exact Or.inr (Or.inl (hs (c := 0x39) (rw := rw) (b := b) rfl))
  case sfrx rw b => exact Or.inr (Or.inl (hs (c := 0x3A) (rw := rw) (b := b) rfl))
  case sftx rw b => exact Or.inr (Or.inl (hs (c := 0x3B) (rw := rw) (b := b) rfl))
  case sworrst rw b => exact Or.inr (Or.inl (hs (c := 0x3C) (rw := rw) (b := b) rfl))
  case snop rw b => exact Or.inr (Or.inl (hs (c := 0x3D) (rw := rw) (b := b) rfl))
  case addrByte x =>
    simp only [exec, execAddrByte, addressPhase] at h
    split at h
    · exact absurd h (by simp)
    · rename_i d hd
      exact Or.inr (Or.inr (Or.inl ⟨x, d, rfl, hd, (Host.Outcome.next.inj h).symm⟩))
  case dataByte x =>
    simp only [exec, execDataByte, dataPhase] at h
    split at h
    · exact absurd h (by simp)
    · rename_i d hd
      split at h
      · exact absurd h (by simp)
      · rename_i v hv
        exact Or.inr (Or.inr (Or.inr (Or.inl
          ⟨x, d, v, rfl, hd, hv, by rw [← Host.Outcome.next.inj h, status_beginTransfer]⟩)))
  case readoutByte x =>
    simp only [exec, execReadoutByte, readoutPhase] at h
    split at h
    · exact absurd h (by simp)
    · rename_i d hd
      split at h
      · exact absurd h (by simp)
      · rename_i r v hv
        exact Or.inr (Or.inr (Or.inr (Or.inr (Or.inl ⟨x, d, r, v, rfl, hd, hv, (Host.Outcome.next.inj h).symm⟩))))
  case setCs l =>
    have h' := (Host.Outcome.next.inj h).symm
    exact Or.inr (Or.inr (Or.inr (Or.inr (Or.inr (Or.inl ⟨l, rfl, h'⟩)))))
  case receive f =>
    have h' := (Host.Outcome.next.inj h).symm
    exact Or.inr (Or.inr (Or.inr (Or.inr (Or.inr (Or.inr (Or.inl ⟨f, rfl, h'⟩))))))
  case powerOnReset =>
    have h' := (Host.Outcome.next.inj h).symm
    exact Or.inr (Or.inr (Or.inr (Or.inr (Or.inr (Or.inr (Or.inr ⟨rfl, h'⟩))))))
  all_goals
    have h' := (Host.Outcome.next.inj h).symm
    refine Or.inl ⟨_, _, _, rfl, ?_, rfl, ?_, h'⟩
    · intro c rw b hd
      unfold decodeStrobe at hd
      split at hd <;> cases hd
    · first
        | exact fun hw => std _ hw
        | exact fun _ => fix _ (by simp)

end Sys2Proof.Machine
end

