-- ==== Sys2Proof/Laws/Fields.lean ====
section
/-!
SUPPORT. The laws of REG_MAP's fields (20_memory.md R86): where a field lies, which bits are its own, what a cell hides, and
what the length rule answers.
-/

namespace Sys2Proof.Machine

theorem liesIn_iff {p : FieldPos} {sp : Space} {a : Byte} : p.liesIn sp a = true ↔ p.space = sp ∧ p.addr = a := by
  simp [FieldPos.liesIn]

/-- A bit of a field's value is a bit of its cell, from the field's lowest bit on, within its width. -/
theorem getLsbD_slice (p : FieldPos) (w i : Nat) (v : Byte) :
    (p.slice w v).getLsbD i = (decide (i < w) && decide (i < p.width) && v.getLsbD (p.lo + i)) := by
  simp [FieldPos.slice, BitVec.getLsbD_setWidth, BitVec.getLsbD_extractLsb', Bool.and_assoc]

/-- A field placed in its cell holds its value's bits, and zero elsewhere. -/
theorem getLsbD_place {w : Nat} (p : FieldPos) (v : BitVec w) (i : Nat) :
    (p.place v).getLsbD i =
      (decide (i < 8) && decide (p.lo ≤ i) && decide (i < p.lo + p.width) && v.getLsbD (i - p.lo)) := by
  have e : decide (i - p.lo < p.width) = decide (i < p.lo + p.width) ∨ i < p.lo := by
    by_cases h : i < p.lo
    · exact .inr h
    · exact .inl (by congr 1; exact propext (by omega))
  rcases e with e | e
  · by_cases h8 : i < 8 <;> by_cases h : p.lo ≤ i <;>
      simp [FieldPos.place, BitVec.getLsbD_shiftLeft, BitVec.getLsbD_setWidth, e, h8, h]
  · have h : ¬p.lo ≤ i := by omega
    simp [FieldPos.place, BitVec.getLsbD_shiftLeft, h]

/-- The bits of a field's mask are the field's bits. -/
theorem getLsbD_mask (p : FieldPos) (i : Nat) :
    p.mask.getLsbD i = (decide (i < 8) && decide (p.lo ≤ i) && decide (i < p.lo + p.width)) := by
  rw [FieldPos.mask, getLsbD_place, BitVec.getLsbD_allOnes]
  by_cases h : p.lo ≤ i <;> by_cases h' : i < p.lo + p.width <;> simp [h, h']
  omega

/-- A cell hides the bits of the write-only fields that lie there (R80). -/
theorem getLsbD_hiddenBits (c : Config) (sp : Space) (a : Byte) (i : Nat) :
    (hiddenBits c sp a).getLsbD i =
      c.regMap.writeOnlyFields.any fun p => p.liesIn sp a && p.mask.getLsbD i := by
  have key : ∀ (l : List FieldPos) (m : Byte), (l.foldl (fun m p => m ||| p.mask) m).getLsbD i =
      (m.getLsbD i || l.any fun p => p.mask.getLsbD i) := by
    intro l
    induction l with
    | nil => simp
    | cons p l ih => intro m; simp [ih, Bool.or_assoc]
  rw [hiddenBits, key]
  simp [List.any_filter]

/-- Where the rule lists no argument, the limit is the formula's (R256). -/
theorem lengthRuleLimit_of_nil {r : LengthRule} (h : r.listed = []) (x : LengthArgs) :
    lengthRuleLimit r x = lengthFormula r x := by
  simp [lengthRuleLimit, h]

end Sys2Proof.Machine
end

