-- ==== Sys2Proof/Laws/PerInstr.lean ====
section
/-!
SUPPORT. Lemmas per instruction. The family ReadBack: an instruction, sent as its event and read in its bus state, is read
back as itself, with every operand.
-/

namespace Sys2Proof.Laws.ReadBack

/-- What the family says of one instruction: whichever of the two top bits is RW, it is read back as itself. -/
def Statement (i : Instr) : Prop :=
  ∀ l : HeaderBits, l = ⟨7, 6⟩ ∨ l = ⟨6, 7⟩ → i.wf = true → decodeEvent l (readIn i) (encodeEvent l i) = i

theorem wr (a : Target) : Statement (.wr a) := by
  rintro l (rfl | rfl) <;> revert a <;> decide

theorem rd (a : Target) : Statement (.rd a) := by
  rintro l (rfl | rfl) <;> revert a <;> decide

theorem wrb (a : Target) : Statement (.wrb a) := by
  rintro l (rfl | rfl) <;> revert a <;> decide

theorem rdb (a : Target) : Statement (.rdb a) := by
  rintro l (rfl | rfl) <;> revert a <;> decide

theorem ewr : Statement .ewr := by
  rintro l (rfl | rfl) _ <;> decide

theorem erd : Statement .erd := by
  rintro l (rfl | rfl) _ <;> decide

theorem ewrb : Statement .ewrb := by
  rintro l (rfl | rfl) _ <;> decide

theorem erdb : Statement .erdb := by
  rintro l (rfl | rfl) _ <;> decide

theorem dwr : Statement .dwr := by
  rintro l (rfl | rfl) _ <;> decide

theorem drd : Statement .drd := by
  rintro l (rfl | rfl) _ <;> decide

theorem dwrb : Statement .dwrb := by
  rintro l (rfl | rfl) _ <;> decide

theorem drdb : Statement .drdb := by
  rintro l (rfl | rfl) _ <;> decide

theorem fwr : Statement .fwr := by
  rintro l (rfl | rfl) _ <;> decide

theorem frd : Statement .frd := by
  rintro l (rfl | rfl) _ <;> decide

theorem fwrb : Statement .fwrb := by
  rintro l (rfl | rfl) _ <;> decide

theorem frdb : Statement .frdb := by
  rintro l (rfl | rfl) _ <;> decide

theorem sres (rw b : Bool) : Statement (.sres rw b) := by
  rintro l (rfl | rfl) _ <;> cases rw <;> cases b <;> decide

theorem sfstxon (rw b : Bool) : Statement (.sfstxon rw b) := by
  rintro l (rfl | rfl) _ <;> cases rw <;> cases b <;> decide

theorem sxoff (rw b : Bool) : Statement (.sxoff rw b) := by
  rintro l (rfl | rfl) _ <;> cases rw <;> cases b <;> decide

theorem scal (rw b : Bool) : Statement (.scal rw b) := by
  rintro l (rfl | rfl) _ <;> cases rw <;> cases b <;> decide

theorem srx (rw b : Bool) : Statement (.srx rw b) := by
  rintro l (rfl | rfl) _ <;> cases rw <;> cases b <;> decide

theorem stx (rw b : Bool) : Statement (.stx rw b) := by
  rintro l (rfl | rfl) _ <;> cases rw <;> cases b <;> decide

theorem sidle (rw b : Bool) : Statement (.sidle rw b) := by
  rintro l (rfl | rfl) _ <;> cases rw <;> cases b <;> decide

theorem safc (rw b : Bool) : Statement (.safc rw b) := by
  rintro l (rfl | rfl) _ <;> cases rw <;> cases b <;> decide

theorem swor (rw b : Bool) : Statement (.swor rw b) := by
  rintro l (rfl | rfl) _ <;> cases rw <;> cases b <;> decide

theorem spwd (rw b : Bool) : Statement (.spwd rw b) := by
  rintro l (rfl | rfl) _ <;> cases rw <;> cases b <;> decide

theorem sfrx (rw b : Bool) : Statement (.sfrx rw b) := by
  rintro l (rfl | rfl) _ <;> cases rw <;> cases b <;> decide

theorem sftx (rw b : Bool) : Statement (.sftx rw b) := by
  rintro l (rfl | rfl) _ <;> cases rw <;> cases b <;> decide

theorem sworrst (rw b : Bool) : Statement (.sworrst rw b) := by
  rintro l (rfl | rfl) _ <;> cases rw <;> cases b <;> decide

theorem snop (rw b : Bool) : Statement (.snop rw b) := by
  rintro l (rfl | rfl) _ <;> cases rw <;> cases b <;> decide

theorem addrByte (x : Byte) : Statement (.addrByte x) := fun _ _ _ => rfl

theorem dataByte (d : Byte) : Statement (.dataByte d) := fun _ _ _ => rfl

theorem readoutByte (x : Byte) : Statement (.readoutByte x) := fun _ _ _ => rfl

theorem setCs (level : Bool) : Statement (.setCs level) := fun _ _ _ => rfl

theorem receive (f : List Byte) : Statement (.receive f) := fun _ _ _ => rfl

theorem powerOnReset : Statement .powerOnReset := by
  rintro l (rfl | rfl) _ <;> decide

end Sys2Proof.Laws.ReadBack
end

