-- ==== Sys2Proof/Tests/Slice0.lean ====
section
/-!
SUPPORT. Tests. Expected values are those of spec/95_test_vectors.md (T-…) or of the encoding column of the opcode table.
Each step test runs one instruction on a small state. The last part holds, for every statement with hypotheses, a named
theorem with a concrete state that meets them.
-/

namespace Sys2Proof.Tests

open Sys2Proof Sys2Proof.Machine Sys2Proof.Spec

/-! ### Helpers -/

/-- The booted state of 95_test_vectors.md, section 0. -/
def booted : State := { State.reset with mode := .idle, cs := true, gpio := ⟨false, false, false, false, false⟩ }

/-- The booted state in another mode. -/
def inMode (m : ChipMode) : State := { booted with mode := m }

/-- The booted state with an access open. -/
def withAccess (bus : BusState) (addr : Byte) (isRead isBurst : Bool) (kind : TargetKind) : State :=
  { booted with bus := bus, desc := some ⟨addr, isRead, isBurst, kind⟩ }

/-- The default header bits. -/
def bits : HeaderBits := defaultConfig.header

/-- The receive configuration of T-RX with APPEND_STATUS = 0, and these further cells (keys above 0x28). -/
def rxState (more : Memory) : State :=
  { inMode .receiveMode with bank := [(0x27, 0x02), (0x28, 0x20)] ++ more ++ [(0x2E, 0x7F)] }

/-- Frame A (T-CRC-4). -/
def frameA : List Byte := [0x03, 0x42, 0xAA, 0xBB, 0x74, 0xBB]

/-- An instruction answers a next state that has the property. -/
def after (i : Instr) (s : State) (p : State → Bool) : Bool :=
  match exec i s with
  | .next t => p t
  | .fault _ => false
  | .refused _ => false

/-- The trace without the entries that 95_test_vectors.md leaves out. -/
def trace (t : State) : List OutEvent := t.out.filter fun e => e != .log .unsupportedGpioRole

theorem next_of_after {i : Instr} {s : State} (p : State → Prop) [DecidablePred p]
    (h : after i s (fun t => decide (p t)) = true) : ∃ t, exec i s = .next t ∧ p t := by
  unfold after at h
  split at h
  · exact ⟨_, ‹_›, of_decide_eq_true h⟩
  · cases h
  · cases h

/-! ### Well-formedness -/

theorem test_wf_refuses_wr : Instr.wf (.wr 0x2F) = false := by decide
theorem test_wf_refuses_rd : Instr.wf (.rd 0x30) = false := by decide
theorem test_wf_refuses_wrb : Instr.wf (.wrb 0x3F) = false := by decide
theorem test_wf_refuses_rdb : Instr.wf (.rdb 0x2F) = false := by decide
theorem test_wf_accepts_last : Instr.wf (.wr 0x2E) && Instr.wf (.rd 0x2E) && Instr.wf (.wrb 0x2E) &&
    Instr.wf (.rdb 0x2E) = true := by decide

/-! ### Decoding: every constructor's word, written out from its encoding -/

theorem test_decode_register : [0b00101110, 0b10101110, 0b01000101, 0b11011110].map (decodeTableWord 8) =
    [some (.wr 0x2E), some (.rd 0x2E), some (.wrb 0x05), some (.rdb 0x1E)] := by decide
theorem test_decode_extended : [0b00101111, 0b10101111, 0b01101111, 0b11101111].map (decodeTableWord 8) =
    [some .ewr, some .erd, some .ewrb, some .erdb] := by decide
theorem test_decode_direct : [0b00111110, 0b10111110, 0b01111110, 0b11111110].map (decodeTableWord 8) =
    [some .dwr, some .drd, some .dwrb, some .drdb] := by decide
theorem test_decode_fifo : [0b00111111, 0b10111111, 0b01111111, 0b11111111].map (decodeTableWord 8) =
    [some .fwr, some .frd, some .fwrb, some .frdb] := by decide
theorem test_decode_strobe_low :
    [0b00110000, 0b00110001, 0b10110010, 0b01110011, 0b10110100, 0b11110101, 0b00110110].map (decodeTableWord 8) =
    [some (.sres false false), some (.sfstxon false false), some (.sxoff true false), some (.scal false true),
      some (.srx true false), some (.stx true true), some (.sidle false false)] := by decide
theorem test_decode_strobe_high :
    [0b00110111, 0b10111000, 0b00111001, 0b00111010, 0b00111011, 0b11111100, 0b01111101].map (decodeTableWord 8) =
    [some (.safc false false), some (.swor true false), some (.spwd false false), some (.sfrx false false),
      some (.sftx false false), some (.sworrst true true), some (.snop false true)] := by decide
theorem test_decode_operands : decodeByte bits .waitingForAddress 0b00110000 = .addrByte 0x30 ∧
    decodeByte bits .waitingForData 0b00110110 = .dataByte 0x36 ∧
    decodeByte bits .readout 0b11111111 = .readoutByte 0xFF := by decide
theorem test_decode_events : decodeEvent bits .readout (.setCS true) = .setCs true ∧
    decodeEvent bits .waitingForData (.receive [0x01]) = .receive [0x01] ∧
    decodeEvent bits .waitingForAddress .powerOnReset = .powerOnReset := by decide
theorem test_decode_no_byte : (decode bits .readout []).toOption = none := by decide
/-- HDR_RW_BIT = 6 and HDR_BURST_BIT = 7 (R7): the two top bits change places. -/
theorem test_decode_exchanged_bits : [0b01101110, 0b10000101, 0b01101111].map (decodeByte ⟨6, 7⟩ .waitingForHeader) =
    [.rd 0x2E, .wrb 0x05, .erd] := by decide
theorem test_command_lengths : [0x2E, 0xC0, 0x2F, 0xEF, 0x3E, 0x3F, 0x7F, 0xF5].map (commandLength bits) =
    [.exactly 2, .openAfter 1, .exactly 3, .openAfter 2, .exactly 3, .exactly 2, .openAfter 1, .exactly 1] := by decide
theorem test_pseudo_txput : (Pseudo.txput [0x01, 0x02]).expand bits =
    [.transfer 0x7F, .transfer 0x01, .transfer 0x02, .setCS false, .setCS true] := by decide
theorem test_pseudo_eread : (Pseudo.eread 0xD7).expand bits = [.transfer 0xAF, .transfer 0xD7, .transfer 0x00] := by decide
/-- The bounds of R130: each is refused just outside. -/
theorem test_pseudo_wf_refuses : ([.write 0x2F 0x00, .read 0x2F, .bwrite 0x2F [0x00], .bwrite 0x00 [], .bread 0x2F 1,
    .bread 0x00 0, .txput [], .rxget 0, .strobe 0x2F, .strobe 0x3E] : List Pseudo).any Pseudo.wf = false := by decide
theorem test_pseudo_wf_accepts : ([.write 0x2E 0x00, .read 0x2E, .bwrite 0x2E [0x00], .bread 0x2E 1, .ewrite 0xFF 0x00,
    .eread 0xFF, .txput [0x00], .rxget 1, .strobe 0x30, .strobe 0x3D] : List Pseudo).all Pseudo.wf = true := by decide

/-! ### Steps -/

theorem test_step_fetches_word : (match step (State.reset.withFetchWord 8 0xAE) with
    | .next t => t.resp == some 0x80 && t.bus == .readout && t.input == []
        && trace t == [.log .notSelected, .log .accessWhileOff]
    | _ => false) = true := by decide  -- T-BUS-12
theorem test_wr : after (.wr 0x1E) (inMode .receiveMode) (fun t => t.resp == some 0x10 &&
    t.bus == .waitingForData && t.desc == some ⟨0x1E, false, false, .registers⟩) = true := by decide  -- T-SRC-1
theorem test_rd : after (.rd 0x2E) booted (fun t => t.resp == some 0x00 && t.bus == .readout &&
    t.desc == some ⟨0x2E, true, false, .registers⟩) = true := by decide  -- T-DEC-12
theorem test_wrb : after (.wrb 0x00) booted (fun t => t.bus == .waitingForData &&
    t.desc == some ⟨0x00, false, true, .registers⟩) = true := by decide  -- T-DEC-8
theorem test_rdb : after (.rdb 0x00) booted (fun t => t.bus == .readout &&
    t.desc == some ⟨0x00, true, true, .registers⟩) = true := by decide  -- T-DEC-17
theorem test_ewr : after .ewr (inMode .receiveMode) (fun t => t.resp == some 0x10 && t.bus == .waitingForAddress) = true := by
  decide  -- T-BUS-6
theorem test_erd : after .erd booted (fun t => t.bus == .waitingForAddress &&
    (t.desc.map (·.isRead)) == some true) = true := by decide  -- T-DEC-13
theorem test_ewrb : after .ewrb booted (fun t => t.bus == .waitingForAddress &&
    (t.desc.map (·.isBurst)) == some true) = true := by decide  -- T-DEC-9
theorem test_erdb : after .erdb booted (fun t => t.bus == .waitingForAddress &&
    (t.desc.map (·.kind)) == some .extendedRegisters) = true := by decide  -- T-DEC-18
theorem test_dwr : after .dwr booted (fun t => t.bus == .waitingForAddress &&
    (t.desc.map (·.kind)) == some .directFifo) = true := by decide  -- T-DEC-6
theorem test_drd : after .drd { booted with cfg := { defaultConfig with fecSelect := true } } (fun t =>
    (t.desc.map (·.kind)) == some .fecWorkspaceOrFreeArea) = true := by decide  -- T-DEC-15 with FEC_SELECT
theorem test_dwrb : after .dwrb booted (fun t => t.bus == .waitingForAddress &&
    (t.desc.map (·.isRead)) == some false) = true := by decide  -- R162
theorem test_drdb : after .drdb booted (fun t => t.bus == .waitingForAddress) = true := by decide  -- T-DEC-20
theorem test_fwr : after .fwr booted (fun t => t.bus == .waitingForData &&
    (t.desc.map (·.kind)) == some .standardFifo) = true := by decide  -- T-DEC-7
theorem test_frd : after .frd booted (fun t => t.bus == .readout) = true := by decide  -- T-DEC-16
theorem test_fwrb : after .fwrb booted (fun t => t.bus == .waitingForData &&
    (t.desc.map (·.isBurst)) == some true) = true := by decide  -- T-DEC-10
theorem test_frdb : after .frdb booted (fun t => t.bus == .readout) = true := by decide  -- T-DEC-21
theorem test_addr_byte : after (.addrByte 0x0D) (withAccess .waitingForAddress 0x2F false false .extendedRegisters) (fun t =>
    t.resp == some 0x00 && t.bus == .waitingForData && (t.desc.map (·.addr)) == some 0x0D) = true := by
  decide  -- T-BUS-4
theorem test_data_slice : after (.dataByte 0x12) (withAccess .waitingForData 0x0D false false .extendedRegisters) (fun t =>
    freq t == 0x5612CC && t.bus == .waitingForHeader) = true := by decide  -- T-BUS-4
theorem test_data_crc_callback : after (.dataByte 0x05) (withAccess .waitingForData 0x27 false false .registers) (fun t =>
    t.activePoly == 0x1021 && t.activeSeed == 0x0000) = true := by decide  -- T-BUS-13
theorem test_readout_part_number : after (.readoutByte 0x00) (withAccess .readout 0x8F true true .extendedRegisters) (fun t =>
    t.resp == some 0x20 && t.bus == .readout) = true := by decide  -- T-BUS-5
theorem test_readout_fifo : after (.readoutByte 0x00)
    { withAccess .readout 0x3F true false .standardFifo with rxFifo := [0x11, 0x22] } (fun t =>
    t.resp == some 0x11 && t.rxFifo == [0x22] && t.bus == .waitingForHeader) = true := by decide  -- T-BUS-7
theorem test_sres : after (.sres false false) { booted with bank := [(0x2E, 0x14)], txFifo := [0x02] } (fun t =>
    t.resp == some 0x00 && t.bank == [] && t.txFifo == [] && t.cs && t.mode == .off) = true := by decide  -- T-STR-3
theorem test_sfstxon : after (.sfstxon false false) booted (fun t => t.mode == .fastTxReady && t.resp == some 0x00) = true := by
  decide  -- T-STR-1
theorem test_sxoff : after (.sxoff false false) (inMode .off) (fun t => t.resp == some 0x80 &&
    trace t == [.log .accessWhileOff, .log .unknownStrobe]) = true := by decide  -- T-STR-2
theorem test_scal : after (.scal false false) (inMode .off) (fun t => t.mode == .off &&
    trace t == [.log .accessWhileOff, .log .unknownStrobe]) = true := by decide  -- T-STR-2
theorem test_srx : after (.srx false false) (inMode .fastTxReady) (fun t => t.resp == some 0x30 &&
    t.mode == .receiveMode) = true := by decide  -- T-STR-1
theorem test_srx_pending : after (.srx false false) { rxState [] with mode := .idle, pending := some frameA } (fun t =>
    t.rxFifo == [0x03, 0x42, 0xAA, 0xBB] && t.mode == .idle && t.pending == none &&
    trace t == [.blink .line3]) = true := by decide +kernel  -- T-STR-5, T-RX-16
theorem test_stx : after (.stx false false) { booted with txFifo := [0x03, 0x10, 0x20, 0x30] } (fun t =>
    trace t == [.frameSent [0x03, 0x10, 0x20, 0x30, 0x4F, 0xE3], .blink .line3] && t.mode == .idle) = true := by
  decide +kernel  -- T-TX-1
theorem test_stx_g : after (.stx true true)
    { booted with bank := [(0x26, 0x24)], txFifo := [0x00, 0x07, 0x41, 0x88, 0x01] } (fun t =>
    trace t == [.frameSent [0x00, 0x07, 0x41, 0x88, 0x01, 0x87, 0x22, 0x96, 0x49], .blink .line3]) = true := by
  decide +kernel  -- T-TX-7
theorem test_sidle : after (.sidle false false) (inMode .receiveMode) (fun t => t.resp == some 0x10 && t.mode == .idle) = true := by
  decide  -- T-STR-1
theorem test_safc : after (.safc false false) (inMode .off) (fun t => t.resp == some 0x80 &&
    trace t == [.log .accessWhileOff, .log .unknownStrobe]) = true := by decide  -- T-STR-2
theorem test_swor : after (.swor true false) (inMode .off) (fun t => t.resp == some 0x80 &&
    trace t == [.log .accessWhileOff, .log .unknownStrobe]) = true := by decide  -- T-STR-2
theorem test_spwd : after (.spwd false false) booted (fun t => t.resp == some 0x00 && t.mode == .off) = true := by
  decide  -- T-STR-1
theorem test_sfrx : after (.sfrx false false) { booted with rxFifo := [0x01], txFifo := [0x02] } (fun t =>
    t.rxFifo == [] && t.txFifo == [0x02]) = true := by decide  -- T-STR-4
theorem test_sftx : after (.sftx false false) { booted with rxFifo := [0x01], txFifo := [0x02] } (fun t =>
    t.rxFifo == [0x01] && t.txFifo == []) = true := by decide  -- T-STR-4
theorem test_sworrst : after (.sworrst false false) (inMode .off) (fun t => t.resp == some 0x80 &&
    trace t == [.log .accessWhileOff, .log .unknownStrobe]) = true := by decide  -- T-STR-2
theorem test_snop : after (.snop false false) (inMode .fastTxReady) (fun t => t.resp == some 0x30 && trace t == []) = true := by
  decide  -- T-STR-1
theorem test_set_cs_abandons : after (.setCs false) (withAccess .waitingForData 0x2E false false .registers) (fun t =>
    t.bus == .waitingForHeader && t.desc == none && t.gpio.miso) = true := by decide  -- T-BUS-9
theorem test_set_cs_leaves_off : after (.setCs false) (inMode .off) (fun t => t.mode == .idle && t.resp == none) = true := by
  decide  -- T-STR-2
theorem test_receive_ack : after (.receive [0x06, 0x21, 0x00, 0x5A, 0x01, 0xC8, 0x2B]) (rxState [(0x29, 0x2F), (0x2A, 0x08)])
    (fun t => trace t == [.frameSent [0x05, 0x02, 0x00, 0x5A, 0x0F, 0xF4], .blink .line3] &&
    t.mode == .transmitMode) = true := by decide +kernel  -- T-RX-ACK-1
theorem test_receive_bad_crc : after (.receive [0x03, 0x42, 0xAA, 0xBB, 0x74, 0xBC]) (rxState []) (fun t =>
    trace t == [.log .badCrc] && t.rxFifo == [] && t.mode == .receiveMode) = true := by decide +kernel  -- T-RX-12
theorem test_power_on_reset : after .powerOnReset { booted with bank := [(0x2E, 0x14)], refused := true } (fun t =>
    t == State.reset) = true := by decide  -- R370 to R372

/-! ### Operations -/

theorem test_length_limit : [(0x20, 0x14), (0x20, 0xFF), (0x00, 0xFF)].map
    (fun p : Byte × Byte => lengthLimit { booted with bank := [(0x28, p.1), (0x2E, p.2)] }) = [18, 125, 126] := by
  decide  -- T-RX-LEN-1, 2, 5
theorem test_g_length : declaredLength { booted with bank := [(0x26, 0x24)] } [0x11, 0x05] = 261 := by
  decide  -- T-RX-LEN-13
theorem test_tx_full_latch : (refresh { booted with txFifo := List.replicate 128 0x01 }).txFullLatch = true ∧
    (refresh { booted with txFifo := List.replicate 127 0x01 }).txFullLatch = false := by decide +kernel  -- T-GPIO-2
/-- Under a LENGTH_LIMIT that lists one argument, that argument's limit is the listed one and every other the formula's. -/
theorem test_length_rule_listed :
    let x : LengthArgs := ⟨1, 0x14, true, true⟩
    let r : LengthRule := { defaultConfig.lengthRule with listed := [(x, -5)] }
    lengthRuleLimit r x = -5 ∧ lengthRuleLimit r { x with appendStatus := false } = 20 := by decide
/-- FIFO_CAPACITY = 1: the second byte is lost (R87). -/
theorem test_fifo_capacity :
    let s : State := { booted with cfg := { defaultConfig with fifoCapacity := 1 } }
    (enqueue .tx 0x02 (enqueue .tx 0x01 s)).txFifo = [0x01] ∧
    (enqueue .tx 0x02 (enqueue .tx 0x01 s)).out = [.log .txOverflow] := by decide
/-- A REG_MAP that puts DEVICE_ADDR into the low nibble of extended address 0x20: the cell is then declared as stored, and
the field reads its four bits. -/
theorem test_reg_map_space :
    let c : Config := { defaultConfig with regMap := { defaultRegMap with deviceAddr := ⟨.ext, 0x20, 0, 4⟩ } }
    cellKind c .ext 0x20 = .stored ∧ deviceAddr { booted with cfg := c, bank := [(0x120, 0x5A)] } = 0x0A := by decide
/-- WRITE_ONLY_READBACK = Zero hides CRC_CFG and FREQ (R80). -/
theorem test_write_only_zero : [(Space.std, (0x27 : Byte)), (.std, 0x28), (.ext, 0x0D)].map
    (fun p => readBack { booted with cfg := { defaultConfig with writeOnlyReadback := .zero } } p.1 p.2 0xFF) =
    [0xF9, 0xFF, 0x00] := by decide
theorem test_memory_write_back : Memory.write defaultConfig 0x2E 0x03 [(0x27, 0x05), (0x2E, 0x14)] = [(0x27, 0x05)] := by
  decide  -- R80, R81: the reset value of PKT_LEN is no entry

/-! ### Witnesses: states that meet the hypotheses of the statements -/

/-- A good state: a read-out in progress, a cell written, a byte to come. -/
def good : State :=
  { withAccess .readout 0x2E true false .registers with
    bank := [(0x27, 0x05)], activePoly := 0x1021, activeSeed := 0x0000, rxFifo := [0x11], input := [.transfer 0x00] }

theorem witness_good : good.Inv where
  bankCanonical := by decide
  bankDeclared := by
    intro e he
    simp only [good, List.mem_singleton] at he
    exact ⟨.std, 0x27, by rw [he]; decide, by decide⟩
  capacityPositive := by decide
  rxFits := by decide
  txFits := by decide
  noPulse := rfl
  descDead := by decide
  descKind := by intro d hd; cases hd; decide
  addressPhase := by intro d _ h; cases h
  dataPhase := by intro d _ h; cases h
  readoutPhase := by intro d hd _; cases hd; rfl
  misoLevel := rfl
  enteredMode := Or.inr (Or.inl rfl)
  pendingHeld := by intro _; rfl
  latchSet := by intro h; exact absurd h (by decide)
  latchClear := by intros; rfl
  markReason := rfl
  activePair := by
    have h : crcPairOf good.cfg (crcCfg good) = some ⟨0x1021, 0x0000⟩ := by decide
    intro p hp
    rw [h] at hp
    cases hp
    exact ⟨rfl, rfl⟩

theorem witness_StepKeepsInvariant : ∃ t, step good = .next t ∧ t.resp = some 0x03 :=
  next_of_after (i := .readoutByte 0x00) (s := { good with input := [] }) (fun t => t.resp = some 0x03) (by decide)
theorem witness_DecodeInvertsEncode : (bits = ⟨7, 6⟩ ∨ bits = ⟨6, 7⟩) ∧ Instr.wf (.rdb 0x2E) = true ∧ Instr.isEvent (.rdb 0x2E) = false ∧
    Instr.wf (.wr 0x00) = true ∧ Instr.wf (.receive []) = true := by decide
theorem witness_StepRunsDecodedInstruction : good.input = [.transfer 0x00] ∧
    decode good.cfg.header good.bus [0x00] = .ok (.readoutByte 0x00, []) ∧ State.reset.input = [] := ⟨rfl, rfl, rfl⟩
theorem witness_RegisterHeadersOpenAccess : stdAddressOk 0x00 = true ∧ stdAddressOk 0x2E = true := by decide
theorem witness_DirectHeadersAwaitAddress : booted.cfg.fecSelect = false ∧
    ({ defaultConfig with fecSelect := true } : Config).fecSelect = true := by decide
theorem witness_AddressByteSetsTarget : (withAccess .waitingForAddress 0x2F true false .extendedRegisters).desc =
    some ⟨0x2F, true, false, .extendedRegisters⟩ := rfl
theorem witness_register_access : spaceOf .registers = some .std ∧ spaceOf .extendedRegisters = some .ext ∧
    (withAccess .readout 0x2E true false .registers).desc = some ⟨0x2E, true, false, .registers⟩ := ⟨rfl, rfl, rfl⟩
/-- The clauses of DataByteWritesOneCell and ReadoutAnswersCell, at the bounds of their ranges. -/
theorem witness_cell_kinds : cellKind booted.cfg .std 0x00 = .stored ∧ cellKind booted.cfg .std 0x27 = .stored ∧
    cellKind booted.cfg .std 0x2E = .stored ∧ cellKind booted.cfg .std 0x2F = .unbacked ∧
    cellKind booted.cfg .ext 0x0B = .unbacked ∧ cellKind booted.cfg .ext 0x0C = .stored ∧
    cellKind booted.cfg .ext 0x0E = .stored ∧ cellKind booted.cfg .ext 0x0F = .unbacked ∧
    cellKind booted.cfg .ext 0x71 = .computed ∧ cellKind booted.cfg .ext 0x74 = .computed ∧
    cellKind booted.cfg .ext 0x8F = .computed ∧ cellKind booted.cfg .ext 0xD6 = .computed ∧
    cellKind booted.cfg .ext 0xD7 = .computed ∧ Memory.wf booted.cfg booted.bank = true := by decide
/-- The default map's mark: ComputedCellsOfDefaultMap and FrequencySlicesAreSeparate take it as a hypothesis. -/
theorem witness_ComputedCellsOfDefaultMap : booted.cfg.regMap = defaultConfig.regMap := rfl
theorem witness_ReadoutAnswersCell_zero : ∃ s : State, s.cfg.writeOnlyReadback = .zero ∧
    cellKind s.cfg .std 0x27 = .stored ∧ s.desc = some ⟨0x27, true, false, .registers⟩ :=
  ⟨{ withAccess .readout 0x27 true false .registers with cfg := { defaultConfig with writeOnlyReadback := .zero } },
    rfl, by decide, rfl⟩
theorem witness_LengthLimitIsAnyFunction : ∃ s : State, s.cfg.lengthRule = defaultConfig.lengthRule := ⟨booted, rfl⟩
theorem witness_fifo_access : ∃ s : State, s.desc = some ⟨0x3F, false, true, .standardFifo⟩ ∧
    s.txFifo.length = s.cfg.fifoCapacity :=
  ⟨{ withAccess .waitingForData 0x3F false true .standardFifo with txFifo := List.replicate 128 0x01 }, rfl, List.length_replicate⟩
theorem witness_fifo_access_room : ∃ s : State, s.desc = some ⟨0x3F, true, true, .standardFifo⟩ ∧
    s.txFifo.length = 127 ∧ s.rxFifo = [0x11] :=
  ⟨{ withAccess .readout 0x3F true true .standardFifo with txFifo := List.replicate 127 0x01, rxFifo := [0x11] },
    rfl, List.length_replicate, rfl⟩
theorem witness_fifo_access_empty : (withAccess .readout 0x3F true false .standardFifo).rxFifo = [] := rfl
theorem witness_direct_access : isDirect .directFifo ∧ isDirect .fecWorkspaceOrFreeArea ∧
    booted.cfg.directPolicy = .refuse ∧ ({ defaultConfig with directPolicy := .peek } : Config).directPolicy = .peek :=
  ⟨Or.inl rfl, Or.inr rfl, rfl, rfl⟩
theorem witness_OperandWithoutAccessFaults : booted.desc = none ∧
    (withAccess .readout 0x3D true false .commandStrobe).desc = some ⟨0x3D, true, false, .commandStrobe⟩ := ⟨rfl, rfl⟩
theorem witness_BusFollowsTable : ∃ t, exec (decodeByte bits booted.bus 0x7F) booted = .next t ∧ t.bus = .waitingForData :=
  next_of_after (fun t => t.bus = .waitingForData) (by decide)
theorem witness_strobe_map : strobeOf booted.cfg 0x30 = .reset ∧ strobeOf booted.cfg 0x31 = .calibrate ∧
    strobeOf booted.cfg 0x32 = .unknown ∧ strobeOf booted.cfg 0x33 = .unknown ∧ strobeOf booted.cfg 0x34 = .enableRx ∧
    strobeOf booted.cfg 0x35 = .enableTx ∧ strobeOf booted.cfg 0x36 = .goIdle ∧ strobeOf booted.cfg 0x37 = .unknown ∧
    strobeOf booted.cfg 0x38 = .unknown ∧ strobeOf booted.cfg 0x39 = .sleep ∧ strobeOf booted.cfg 0x3A = .flushRx ∧
    strobeOf booted.cfg 0x3B = .flushTx ∧ strobeOf booted.cfg 0x3C = .unknown ∧ strobeOf booted.cfg 0x3D = .noOperation := by
  decide
theorem witness_scal_calibrates : strobeOf { defaultConfig with calibrateCodes := [0x31, 0x33] } 0x33 = .calibrate := by decide
theorem witness_SrxProcessesPending : (inMode .receiveMode).mode = .receiveMode ∧ booted.mode ≠ .receiveMode ∧
    booted.pending = none ∧ ({ booted with pending := some frameA } : State).pending = some frameA := by decide
theorem witness_StxSendsWholeFifo : ¬TxAborts booted ∧ txoffMode booted ≠ 3 ∧
    txoffMode { booted with bank := [(0x2A, 0x30)], pending := some frameA } = 3 := by
  unfold TxAborts; decide
theorem witness_StxAbortsOnModeSwitch : TxAborts { booted with bank := [(0x26, 0x24)], txFifo := [0x80, 0x03] } := by
  unfold TxAborts; decide
theorem witness_StrobeEffectIsItsCommand : decodeStrobe 0x32 true false = some (.sxoff true false) ∧
    decodeStrobe 0x38 false true = some (.swor false true) ∧ strobeOf booted.cfg 0x32 = strobeOf booted.cfg 0x38 := by decide
theorem witness_ReceiveHoldsOrProcesses : booted.mode ≠ .receiveMode ∧ (rxState []).mode = .receiveMode := by decide

/-- The five drops, each with the hypotheses of its clause: LENGTH_CONFIG = 2, a declared length one above the limit, an
address one off, a wrong CRC. -/
theorem witness_DroppedFrameLeavesFifo :
    ([0x01, 0x42] : List Byte).length ≤ 2 ∧
    lengthConfig { booted with bank := [(0x28, 0x40)] } = 2 ∧ booted.cfg.infiniteLength = .drop ∧
    lengthConfig (rxState []) ≠ 2 ∧ lengthLimit (rxState []) < (declaredLength (rxState []) [0x80, 0x00, 0x00] : Int) := by
  decide
theorem witness_DroppedByAddress :
    let s : State := { rxState [] with bank := [(0x1E, 0x43), (0x27, 0x0A), (0x28, 0x20), (0x2E, 0x7F)] }
    PassesLength s frameA ∧ ¬PassesAddress s frameA := by
  unfold PassesLength PassesAddress; decide
theorem witness_DroppedByCrc :
    let f : List Byte := [0x03, 0x42, 0xAA, 0xBB, 0x74, 0xBC]
    2 < f.length ∧ PassesLength (rxState []) f ∧ PassesAddress (rxState []) f ∧ crcCheck (rxState []) f = false ∧
      crcAutoflush (rxState []) = true := by
  unfold PassesLength PassesAddress; decide +kernel
theorem witness_accepted : (rxState []).rxFifo.length ≤ (rxState []).cfg.fifoCapacity ∧ (rxState []).mode = .receiveMode ∧
    Accepted (rxState []) frameA ∧ ¬AckAsked (rxState []) frameA := by
  unfold Accepted PassesLength PassesAddress AckAsked; decide +kernel
theorem witness_AckCarriesSequenceNumber :
    let s := rxState [(0x29, 0x2F), (0x2A, 0x08)]
    let f : List Byte := [0x06, 0x21, 0x00, 0x5A, 0x01, 0xC8, 0x2B]
    s.mode = .receiveMode ∧ Accepted s f ∧ AckAsked s f ∧ s.cfg.ack = defaultConfig.ack ∧ gMode s = false ∧
      crcEnabled s = true := by
  unfold Accepted PassesLength PassesAddress AckAsked; decide +kernel
theorem witness_ResetIsIdempotent : State.reset.cfg = booted.cfg ∧ State.reset.resp = booted.resp ∧
    State.reset.out = booted.out ∧ State.reset.input = booted.input ∧ State.reset.draws = booted.draws ∧
    State.reset ≠ booted := by decide
theorem witness_ConfigurationNeverChanges : ∃ t, exec .powerOnReset booted = .next t ∧ t.mode = .off :=
  next_of_after (fun t => t.mode = .off) (by decide)
theorem witness_BankWrittenOnlyByDataPhase :
    let s := withAccess .waitingForData 0x2E false false .registers
    ∃ t, exec (.dataByte 0x14) s = .next t ∧ t.bank ≠ s.bank :=
  next_of_after (fun t => t.bank ≠ []) (by decide)
theorem witness_BankWrittenByReset :
    let s : State := { booted with bank := [(0x2E, 0x14)] }
    IsReset s.cfg (.sres true false) ∧ ∃ t, exec (.sres true false) s = .next t ∧ t.bank ≠ s.bank :=
  ⟨⟨0x30, true, false, by decide, by decide⟩,
    next_of_after (fun t => t.bank ≠ [(0x2E, 0x14)]) (by decide)⟩
theorem witness_CrcPairWrittenOnlyByCallback :
    let s := withAccess .waitingForData 0x27 false false .registers
    ∃ t, exec (.dataByte 0x05) s = .next t ∧ (t.activePoly ≠ s.activePoly ∨ t.activeSeed ≠ s.activeSeed) :=
  next_of_after (fun t => t.activePoly ≠ 0x8005 ∨ t.activeSeed ≠ 0xFFFF) (by decide)
theorem witness_ModeWriters :
    let s := rxState [(0x2A, 0x08)]
    s.mode = .receiveMode ∧ ∃ t, exec (.receive [0x80, 0x00, 0x00]) s = .next t ∧ t.mode ≠ s.mode :=
  ⟨rfl, next_of_after (fun t => t.mode ≠ .receiveMode) (by decide)⟩
theorem witness_RefusedMarkIsSticky : ∃ t,
    exec (.dataByte 0x55) (withAccess .waitingForData 0x80 false false .directFifo) = .next t ∧ t.refused = true :=
  next_of_after (fun t => t.refused = true) (by decide)
theorem witness_LevelAndSlotWriters : ∃ t, exec (.receive frameA) booted = .next t ∧ t.pending = some frameA :=
  next_of_after (fun t => t.pending = some frameA) (by decide)
theorem witness_MisoLineIsNotCs : ∃ t, exec (.setCs true) State.reset = .next t ∧ t.gpio.miso = false :=
  next_of_after (fun t => t.gpio.miso = false) (by decide)

/-- Line 0 with a role, a threshold, and one byte in each FIFO. -/
def roleState (code thr : Byte) : State :=
  { booted with bank := [(0x03, code), (0x1D, thr)], rxFifo := [0x01], txFifo := [0x01] }

/-- Every clause of LinesShowRoles: line 0 holds its role after a SNOP. With FIFO_THR = 0 one byte is the bound of the RX
threshold, with FIFO_THR = 126 it is that of the TX threshold. -/
theorem witness_LinesShowRoles : [0x00, 0x02, 0x03, 0x06, 0x25, 0x26, 0x32].all (fun c =>
    after (.snop false false) (roleState c 0x00) fun t => roleCode t .line0 == c.setWidth 6 &&
      t.gpio.line0 == (c == 0x00 || c == 0x25 || c == 0x26)) = true := by decide
theorem witness_LinesShowRoles_tx : ∃ t, exec (.snop false false) (roleState 0x02 0x7E) = .next t ∧
    roleCode t .line0 = 0x02 ∧ t.gpio.line0 = true ∧ (roleState 0x02 0x7E).cfg.gpioRoles = defaultConfig.gpioRoles ∧
    (roleState 0x02 0x7E).cfg.gpioInvHonoured = false :=
  next_of_after (fun t => roleCode t .line0 = 0x02 ∧ t.gpio.line0 = true ∧
    (roleState 0x02 0x7E).cfg.gpioRoles = defaultConfig.gpioRoles ∧
    (roleState 0x02 0x7E).cfg.gpioInvHonoured = false) (by decide)
theorem witness_PreChecksComeFirst : ∃ t, exec (.snop false false) State.reset = .next t ∧ t.resp = some 0x80 :=
  next_of_after (fun t => t.resp = some 0x80) (by decide)
theorem witness_EveryFrameSentPassesCrcCheck : booted.cfg.ack = defaultConfig.ack ∧ booted.cfg.phr = defaultConfig.phr ∧
    ∃ t, exec (.stx false false) booted = .next t ∧ .frameSent [0x00, 0xFF, 0xFF] ∈ t.out :=
  ⟨rfl, rfl, next_of_after (fun t => .frameSent [0x00, 0xFF, 0xFF] ∈ t.out) (by decide)⟩
theorem witness_DequeueTakesHead : ∃ s : State, s.rxFifo = [0x11, 0x22] ∧ s.txFifo = [] :=
  ⟨{ booted with rxFifo := [0x11, 0x22] }, rfl, rfl⟩
/-- The two clauses of LengthBoundary at the bounds of their ranges: L = 2, 127, 128, 255. -/
theorem witness_LengthBoundary : [0x02, 0x7F, 0x80, 0xFF].all (fun l =>
    let s : State := { booted with bank := [(0x28, 0x20), (0x2E, l)] }
    lengthConfig s == 1 && crcAutoflush s && appendStatus s && packetLength s == l) = true := by decide
theorem witness_FrequencySlicesAreSeparate : booted.cfg.regMap = defaultConfig.regMap ∧
    Memory.wf booted.cfg booted.bank = true ∧
    (withAccess .waitingForData 0x0E false false .extendedRegisters).desc = some ⟨0x0E, false, false, .extendedRegisters⟩ :=
  ⟨rfl, rfl, rfl⟩
theorem witness_DefaultStrobeTable : booted.cfg = defaultConfig := rfl

end Sys2Proof.Tests
end

section
/-!
The FIFO pair (20_memory.md R88): what `Dequeue` answers as a whole, said once for either FIFO, and the obligation O50.
-/

namespace Sys2Proof.Proofs

open Sys2Proof Sys2Proof.Machine

/-- A non-empty FIFO yields its head and keeps the rest. -/
theorem dequeue_of_fifo_cons {q : Fifo} {s : State} {v : Byte} {rest : List Byte} (h : s.fifo q = v :: rest) :
    dequeue q s = (v, s.setFifo q rest) := by
  simp only [dequeue, h]

/-- An empty FIFO yields the zero byte, and the underflow is logged. -/
theorem dequeue_of_fifo_nil {q : Fifo} {s : State} (h : s.fifo q = []) :
    dequeue q s = (0x00, s.log (underflowCode q)) := by
  simp only [dequeue, h]

/-- Settles O50: each FIFO's two clauses are the general ones, with `fifo`, `setFifo` and `log` read at that FIFO. -/
theorem dequeueTakesHead : Obligations.DequeueTakesHead := by
  intro s v rest
  refine ⟨fun hrx => ?rxHead, fun htx => ?txHead, fun hrx => ?rxUnderflow, fun htx => ?txUnderflow⟩
  case rxHead => exact dequeue_of_fifo_cons (q := .rx) hrx
  case txHead => exact dequeue_of_fifo_cons (q := .tx) htx
  case rxUnderflow => exact dequeue_of_fifo_nil (q := .rx) hrx
  case txUnderflow => exact dequeue_of_fifo_nil (q := .tx) htx

end Sys2Proof.Proofs
end

section
/-!
The address filter and the drop of the receive pipeline (43_frame_receive.md R262 to R265 and R268): what `AddressOk`
accepts under each policy and what `Drop` leaves, and the obligations O48 and O49.
-/

namespace Sys2Proof.Proofs

open Sys2Proof Sys2Proof.Machine

/-! `AddressOk`, an equation per policy. -/

/-- Policy 0 does not check (R262). -/
theorem addressOk_zero (a d : Byte) : addressOk 0 a d = true := rfl

/-- Policy 1 wants the device address (R263). -/
theorem addressOk_one (a d : Byte) : addressOk 1 a d = (a == d) := rfl

/-- Policy 2 adds the broadcast byte 0xFF (R264). -/
theorem addressOk_two (a d : Byte) : addressOk 2 a d = (a == d || a == 0xFF) := rfl

/-- Policy 3 adds both broadcast bytes (R265). -/
theorem addressOk_three (a d : Byte) : addressOk 3 a d = (a == d || a == 0x00 || a == 0xFF) := rfl

/-- Settles O48: under each policy the test is its equation, a disjunction of byte comparisons. -/
theorem addressPolicies : Obligations.AddressPolicies := by
  intro a d
  refine ⟨addressOk_zero a d, ?deviceOnly, ?oneBroadcast, ?twoBroadcasts⟩
  case deviceOnly => rw [addressOk_one, beq_iff_eq]
  case oneBroadcast => simp only [addressOk_two, Bool.or_eq_true, beq_iff_eq]
  case twoBroadcasts => simp only [addressOk_three, Bool.or_eq_true, beq_iff_eq, or_assoc]

/-! `Drop` as a whole state: the log, and the forced mode on top of it. -/

/-- Logging touches neither the map nor the bank, so TERM_ON_BAD_PACKET_EN reads the same after it. -/
@[simp] theorem termOnBadPacket_log (code : DiagCode) (s : State) :
    termOnBadPacket (s.log code) = termOnBadPacket s :=
  termOnBadPacket_congr rfl rfl

/-- With TERM_ON_BAD_PACKET_EN a drop logs its code and forces Idle (R268). -/
theorem dropFrame_of_term {code : DiagCode} {s : State} (h : termOnBadPacket s = true) :
    dropFrame code s = (s.log code).writeMode .idle := by
  rw [dropFrame, termOnBadPacket_log, if_pos h]

/-- Without TERM_ON_BAD_PACKET_EN a drop only logs its code (R268). -/
theorem dropFrame_of_not_term {code : DiagCode} {s : State} (h : ¬termOnBadPacket s = true) :
    dropFrame code s = s.log code := by
  rw [dropFrame, termOnBadPacket_log, if_neg h]

/-- Settles O49, by whether TERM_ON_BAD_PACKET_EN is set: each case is one of the two equations of a drop. -/
theorem dropForcesIdleOnlyIfConfigured : Obligations.DropForcesIdleOnlyIfConfigured := by
  intro s code
  by_cases h : termOnBadPacket s = true
  · rw [dropFrame_of_term h, if_pos h]
    rfl
  · rw [dropFrame_of_not_term h, if_neg h]
    rfl

end Sys2Proof.Proofs
end

section
/-!
The MISO line (45_gpio_mux.md R322): every operation that an instruction ends with leaves line 4 at the negation of cs, and
the obligation O44.
-/

namespace Sys2Proof.Proofs

open Sys2Proof Sys2Proof.Machine

/-- Line 4 after `Refresh` (R310): the line is driven from cs, and cs stays. -/
theorem refresh_miso_eq_not_cs (s : State) : (refresh s).gpio.miso = !(refresh s).cs := by
  rw [refresh_miso, refresh_cs]

/-- Line 4 after the end of a transfer (R151), whatever byte it answers. -/
theorem endTransfer_miso_eq_not_cs (r : Byte) (s : State) : (endTransfer r s).gpio.miso = !(endTransfer r s).cs := by
  rw [endTransfer_miso, endTransfer_cs]

/-- Line 4 after a reset of the device (R372), which drives it from the cs it keeps or clears. -/
theorem deviceReset_miso_eq_not_cs (keepCS : Bool) (s : State) :
    (deviceReset keepCS s).gpio.miso = !(deviceReset keepCS s).cs := rfl

/-- Settles O44, by the ways an instruction answers a next state: every transfer ends with `endTransfer`, chip select and a
frame end with `refresh`, and power-on reset is a reset of the device. -/
theorem misoLineIsNotCs : Obligations.MisoLineIsNotCs := by
  intro i s t h
  obtain ⟨a, rd, b, -, -, -, -, rfl⟩ | ⟨c, rw, b, -, -, rfl⟩ | ⟨x, d, -, -, rfl⟩ | ⟨b, d, v, -, -, -, rfl⟩ |
    ⟨b, d, r, v, -, -, -, rfl⟩ | ⟨l, -, rfl⟩ | ⟨f, -, rfl⟩ | ⟨-, rfl⟩ := exec_next h
  · -- a header that opens an access
    exact endTransfer_miso_eq_not_cs _ _
  · -- a strobe
    exact endTransfer_miso_eq_not_cs _ _
  · -- an address byte
    exact endTransfer_miso_eq_not_cs _ _
  · -- a data byte
    exact endTransfer_miso_eq_not_cs _ _
  · -- a read-out byte
    exact endTransfer_miso_eq_not_cs _ _
  · -- chip select
    exact refresh_miso_eq_not_cs _
  · -- a frame from the medium
    exact refresh_miso_eq_not_cs _
  · -- power-on reset
    exact deviceReset_miso_eq_not_cs false _

end Sys2Proof.Proofs
end

section
/-!
Encoding and stepping (30_encoding.md R120 to R131): the encoder undone by the decoder, the decoder total, and the
obligations O1 to O4.
-/

namespace Sys2Proof.Proofs

open Sys2Proof Sys2Proof.Machine

/-! ### The encoder undone by the decoder -/

/-- The family ReadBack as one statement: every well-formed instruction is read back from its event. -/
theorem readBack_of_instr (i : Instr) : Laws.ReadBack.Statement i := by
  cases i with
  | wr a => exact Laws.ReadBack.wr a
  | rd a => exact Laws.ReadBack.rd a
  | wrb a => exact Laws.ReadBack.wrb a
  | rdb a => exact Laws.ReadBack.rdb a
  | ewr => exact Laws.ReadBack.ewr
  | erd => exact Laws.ReadBack.erd
  | ewrb => exact Laws.ReadBack.ewrb
  | erdb => exact Laws.ReadBack.erdb
  | dwr => exact Laws.ReadBack.dwr
  | drd => exact Laws.ReadBack.drd
  | dwrb => exact Laws.ReadBack.dwrb
  | drdb => exact Laws.ReadBack.drdb
  | fwr => exact Laws.ReadBack.fwr
  | frd => exact Laws.ReadBack.frd
  | fwrb => exact Laws.ReadBack.fwrb
  | frdb => exact Laws.ReadBack.frdb
  | sres rw b => exact Laws.ReadBack.sres rw b
  | sfstxon rw b => exact Laws.ReadBack.sfstxon rw b
  | sxoff rw b => exact Laws.ReadBack.sxoff rw b
  | scal rw b => exact Laws.ReadBack.scal rw b
  | srx rw b => exact Laws.ReadBack.srx rw b
  | stx rw b => exact Laws.ReadBack.stx rw b
  | sidle rw b => exact Laws.ReadBack.sidle rw b
  | safc rw b => exact Laws.ReadBack.safc rw b
  | swor rw b => exact Laws.ReadBack.swor rw b
  | spwd rw b => exact Laws.ReadBack.spwd rw b
  | sfrx rw b => exact Laws.ReadBack.sfrx rw b
  | sftx rw b => exact Laws.ReadBack.sftx rw b
  | sworrst rw b => exact Laws.ReadBack.sworrst rw b
  | snop rw b => exact Laws.ReadBack.snop rw b
  | addrByte x => exact Laws.ReadBack.addrByte x
  | dataByte d => exact Laws.ReadBack.dataByte d
  | readoutByte x => exact Laws.ReadBack.readoutByte x
  | setCs level => exact Laws.ReadBack.setCs level
  | receive f => exact Laws.ReadBack.receive f
  | powerOnReset => exact Laws.ReadBack.powerOnReset

/-- An instruction that is no event has exactly one byte (R120). -/
theorem encode_eq_singleton (l : HeaderBits) {i : Instr} (h : i.isEvent = false) : ∃ b, encode l i = [b] := by
  cases i
  case setCs => cases h
  case receive => cases h
  case powerOnReset => cases h
  all_goals exact ⟨_, rfl⟩

/-- An instruction of one byte arrives as the transfer of that byte (R131). -/
theorem encodeEvent_of_encode {l : HeaderBits} {i : Instr} {b : Byte} (h : encode l i = [b]) :
    encodeEvent l i = .transfer b := by
  unfold encodeEvent
  rw [h]

/-- Settles O2: the event is read back by the family ReadBack, and for a byte that event is the transfer of the one byte
that the decoder takes off the stream. -/
theorem decodeInvertsEncode : Obligations.DecodeInvertsEncode := by
  intro l i hl hwf
  have hback : decodeEvent l (readIn i) (encodeEvent l i) = i := readBack_of_instr i l hl hwf
  refine ⟨hback, fun rest hbyte => ?stream⟩
  case stream =>
    obtain ⟨b, hb⟩ := encode_eq_singleton l hbyte
    rw [encodeEvent_of_encode hb] at hback
    have hdecode : decodeByte l (readIn i) b = i := hback
    rw [hb, List.singleton_append, decode, hdecode]

/-! ### The decoder -/

/-- A strobe row is encoded as its code under the two bits it was decoded with (R123). -/
theorem encode_of_decodeStrobe {t : Target} {rw b : Bool} {i : Instr} (h : decodeStrobe t rw b = some i)
    (l : HeaderBits) : encode l i = [headerByte l rw b t] := by
  have code : ∀ n, t.toNat = n → t = BitVec.ofNat 6 n := by
    rintro n rfl
    simp
  unfold decodeStrobe at h
  split at h
  case h_15 => cases h
  all_goals
    rename_i hn
    rw [code _ hn]
    cases h
    rfl

/-- A header of the first two target groups is no strobe, and the strobe codes end at 0x3D (R122, R123). -/
theorem decodeStrobe_eq_none_iff (t : Target) (rw b : Bool) :
    decodeStrobe t rw b = none ↔ t.toNat < 0x30 ∨ 0x3D < t.toNat := by
  revert t rw b
  decide

/-- The rows a header byte decodes to, said once: a property of target, RW bit, burst bit and instruction holds of every
header byte if it holds of the four rows of each target group and of every strobe row (R121 to R123). -/
theorem decodeHeader_cases {motive : Target → Bool → Bool → Instr → Prop}
    (register : ∀ a, stdAddressOk a = true → motive a false false (.wr a) ∧ motive a true false (.rd a) ∧
      motive a false true (.wrb a) ∧ motive a true true (.rdb a))
    (extended : motive 0x2F false false .ewr ∧ motive 0x2F true false .erd ∧ motive 0x2F false true .ewrb ∧
      motive 0x2F true true .erdb)
    (strobe : ∀ t rw b i, decodeStrobe t rw b = some i → motive t rw b i)
    (direct : motive 0x3E false false .dwr ∧ motive 0x3E true false .drd ∧ motive 0x3E false true .dwrb ∧
      motive 0x3E true true .drdb)
    (fifo : motive 0x3F false false .fwr ∧ motive 0x3F true false .frd ∧ motive 0x3F false true .fwrb ∧
      motive 0x3F true true .frdb)
    (l : HeaderBits) (h : Byte) : motive (hdrTarget h) (hdrRw l h) (hdrBurst l h) (decodeHeader l h) := by
  unfold decodeHeader
  generalize hdrTarget h = t
  generalize hdrRw l h = rw
  generalize hdrBurst l h = b
  have code : ∀ n, t.toNat = n → t = BitVec.ofNat 6 n := by
    rintro n rfl
    simp
  dsimp only
  split
  · rename_i ht
    obtain ⟨hff, htf, hft, htt⟩ := register t (decide_eq_true ht)
    cases rw <;> cases b <;> assumption
  split
  · rename_i ht
    obtain ⟨hff, htf, hft, htt⟩ := extended
    rw [code _ ht]
    cases rw <;> cases b <;> assumption
  split
  · exact strobe _ _ _ _ ‹_›
  rename_i hs
  split
  · rename_i ht
    obtain ⟨hff, htf, hft, htt⟩ := direct
    rw [code _ ht]
    cases rw <;> cases b <;> assumption
  · have hlast : t = 0x3F := by
      have := (decodeStrobe_eq_none_iff t rw b).mp hs
      bv_omega
    obtain ⟨hff, htf, hft, htt⟩ := fifo
    rw [hlast]
    cases rw <;> cases b <;> assumption

/-- A header byte decodes to the instruction that its two bits and its target are encoded as. -/
theorem encode_decodeHeader (l : HeaderBits) (h : Byte) :
    encode l (decodeHeader l h) = [headerByte l (hdrRw l h) (hdrBurst l h) (hdrTarget h)] :=
  decodeHeader_cases (motive := fun t rw b i => encode l i = [headerByte l rw b t])
    (register := fun _ _ => ⟨rfl, rfl, rfl, rfl⟩) (extended := ⟨rfl, rfl, rfl, rfl⟩)
    (strobe := fun _ _ _ _ hs => encode_of_decodeStrobe hs l)
    (direct := ⟨rfl, rfl, rfl, rfl⟩) (fifo := ⟨rfl, rfl, rfl, rfl⟩) l h

/-- With RW and B the two top bits, in either order, the three parts of a header byte make it up again (R121). -/
theorem headerByte_of_parts {l : HeaderBits} (hl : l = ⟨7, 6⟩ ∨ l = ⟨6, 7⟩) (h : Byte) :
    headerByte l (hdrRw l h) (hdrBurst l h) (hdrTarget h) = h := by
  apply BitVec.eq_of_getLsbD_eq
  intro i hi
  rcases hl with rfl | rfl <;> interval_cases i <;>
    simp [headerByte, hdrRw, hdrBurst, hdrTarget]

/-- A strobe is well-formed, and is read where a header is. -/
theorem wf_and_readIn_of_decodeStrobe {t : Target} {rw b : Bool} {i : Instr} (h : decodeStrobe t rw b = some i) :
    i.wf = true ∧ readIn i = .waitingForHeader := by
  unfold decodeStrobe at h
  split at h <;> cases h <;> exact ⟨rfl, rfl⟩

/-- A header byte decodes to a well-formed instruction, wherever its two bits lie (R127). -/
theorem wf_decodeHeader (l : HeaderBits) (h : Byte) : (decodeHeader l h).wf = true :=
  decodeHeader_cases (motive := fun _ _ _ i => i.wf = true)
    (register := fun _ ha => ⟨ha, ha, ha, ha⟩) (extended := ⟨rfl, rfl, rfl, rfl⟩)
    (strobe := fun _ _ _ _ hs => (wf_and_readIn_of_decodeStrobe hs).1)
    (direct := ⟨rfl, rfl, rfl, rfl⟩) (fifo := ⟨rfl, rfl, rfl, rfl⟩) l h

/-- A header byte decodes to an instruction that is read where a header is (R120). -/
theorem readIn_decodeHeader (l : HeaderBits) (h : Byte) : readIn (decodeHeader l h) = .waitingForHeader :=
  decodeHeader_cases (motive := fun _ _ _ i => readIn i = .waitingForHeader)
    (register := fun _ _ => ⟨rfl, rfl, rfl, rfl⟩) (extended := ⟨rfl, rfl, rfl, rfl⟩)
    (strobe := fun _ _ _ _ hs => (wf_and_readIn_of_decodeStrobe hs).2)
    (direct := ⟨rfl, rfl, rfl, rfl⟩) (fifo := ⟨rfl, rfl, rfl, rfl⟩) l h

/-- Every byte decodes to a well-formed instruction, whatever the bus state and the header bits (R127). -/
theorem wf_decodeByte (l : HeaderBits) (bus : BusState) (b : Byte) : (decodeByte l bus b).wf = true := by
  cases bus
  case waitingForHeader => exact wf_decodeHeader l b
  all_goals rfl

/-- Every byte decodes to an instruction that is read in the bus state it arrived in (R120). -/
theorem readIn_decodeByte (l : HeaderBits) (bus : BusState) (b : Byte) : readIn (decodeByte l bus b) = bus := by
  cases bus
  case waitingForHeader => exact readIn_decodeHeader l b
  all_goals rfl

/-- Settles O3: a header byte is made up of the three parts it decodes by; the operand bytes are themselves. -/
theorem everyByteDecodes : Obligations.EveryByteDecodes := by
  intro l bus b
  refine ⟨wf_decodeByte l bus b, readIn_decodeByte l bus b, fun hl => ?encoded⟩
  case encoded =>
    cases bus
    case waitingForHeader =>
      calc encode l (decodeHeader l b)
          = [headerByte l (hdrRw l b) (hdrBurst l b) (hdrTarget b)] := encode_decodeHeader l b
        _ = [b] := by rw [headerByte_of_parts hl]
    all_goals rfl

/-- Settles O1: eight headers, and one byte of each other bus state, read by evaluation of the decoder. -/
theorem tableWordsDecode : Obligations.TableWordsDecode := by
  refine ⟨?_, ?_, ?_, ?_, ?_, ?_, ?_, ?_, ?_, ?_, ?_⟩ <;> decide

/-! ### A step -/

/-- With nothing to come nothing happens. -/
theorem step_of_input_nil {s : State} (h : s.input = []) : step s = .next s := by
  unfold step
  rw [h]

/-- A step runs the instruction that the first event to come decodes to. -/
theorem step_of_input_cons {s : State} {e : Event} {rest : List Event} (h : s.input = e :: rest) :
    step s = exec (decodeEvent s.cfg.header s.bus e) { s with input := rest } := by
  unfold step
  rw [h]

/-- Settles O4: the two equations of a step, the first read at a transfer. -/
theorem stepRunsDecodedInstruction : Obligations.StepRunsDecodedInstruction := by
  refine ⟨fun s b rest i hin hdec => ?transfer, fun s e rest => step_of_input_cons, fun s => step_of_input_nil⟩
  case transfer =>
    have hi : decodeByte s.cfg.header s.bus b = i := by
      simpa [decode] using hdec
    subst hi
    exact ⟨wf_decodeByte _ _ _, step_of_input_cons hin⟩

end Sys2Proof.Proofs
end

section
/-!
The shape `Completes` of an instruction's whole next state (45_gpio_mux.md R310, 40_bus_access.md R151): what a Refresh
leaves, what it leaves at the end of a transfer, and the headers that open an access, obligations O8 to O11.
-/

namespace Sys2Proof.Proofs

open Sys2Proof Sys2Proof.Machine Sys2Proof.Spec

/-! ### Refresh as a whole state -/

/-- Which trace a Refresh leaves follows from the line roles alone. -/
theorem lineTrace_congr {s t : State} (hc : s.cfg = t.cfg) (hb : s.bank = t.bank) (n : Nat) :
    lineTrace s n = lineTrace t n := by
  simp only [lineTrace, lineRole_congr hc hb]

/-- Refresh adds the entries of the four lines to the trace (R310). -/
theorem refresh_out_eq_lineTrace (s : State) : (refresh s).out = s.out ++ lineTrace s s.syncPulse :=
  refresh_out s

/-- Refresh writes the levels, the latch, the pulse count and the trace, and nothing else (R310). -/
theorem refresh_eq (s : State) : refresh s = { s with
    gpio := (refresh s).gpio, txFullLatch := (refresh s).txFullLatch, syncPulse := 0
    out := s.out ++ lineTrace s s.syncPulse } := by
  apply State.ext <;> simp
  case out => exact refresh_out_eq_lineTrace s

/-- The levels and the latch after a Refresh are those that `RefreshedFrom` says. -/
theorem refreshedFrom_refresh (s : State) : RefreshedFrom s (refresh s) := by
  have hrole : ∀ i, lineRole (refresh s) i = lineRole s i := lineRole_congr (by simp) (by simp)
  have hinv : ∀ i v, invLevel (refresh s) i v = invLevel s i v := invLevel_congr (by simp) (by simp)
  have hthr : fifoThr (refresh s) = fifoThr s := fifoThr_congr (by simp) (by simp)
  refine ⟨refresh_miso_eq_not_cs s, fun i => ?levels, ?latch⟩
  case levels =>
    simp only [hrole, hinv]
    exact refresh_get s i
  case latch =>
    rw [refresh_latch, refresh_txFifo, refresh_cfg, hthr]
    rfl

/-! ### A completed event -/

/-- What a Refresh leaves of the levels and the latch does not depend on the response. -/
theorem refreshedFrom_resp {u t : State} (h : RefreshedFrom u t) (r : Option Byte) :
    RefreshedFrom u { t with resp := r } := by
  obtain ⟨hmiso, hlevels, hlatch⟩ := h
  exact ⟨hmiso, hlevels, hlatch⟩

/-- What a Refresh leaves depends on the levels and the latch it started from, and on nothing else. -/
theorem refreshedFrom_congr {u u' t : State} (h : RefreshedFrom u t) (hg : u'.gpio = u.gpio)
    (hl : u'.txFullLatch = u.txFullLatch) : RefreshedFrom u' t := by
  simp only [RefreshedFrom, hg, hl]
  exact h

/-- An instruction that answers a refreshed state completes; the response is written after the Refresh. -/
theorem completes_of_refresh {i : Instr} {s u v : State} {r r' : Option Byte} {trace : List OutEvent} {n : Nat}
    (h : exec i s = .next { refresh v with resp := r }) (hv : v = { u with resp := r', out := trace })
    (hn : u.syncPulse = n) : Completes i s u r trace n := by
  refine ⟨_, h, ?levels, ?whole⟩
  case levels => exact refreshedFrom_resp (refreshedFrom_congr (refreshedFrom_refresh v) (by rw [hv]) (by rw [hv])) r
  case whole =>
    have htrace : (refresh v).out = trace ++ lineTrace u n := by
      rw [refresh_out_eq_lineTrace, hv, ← hn]
      rfl
    apply State.ext <;> simp [htrace]
    all_goals rw [hv]

/-- The start of a transfer leaves no response and the logs of the pre-checks (R150, R151). -/
theorem beginTransfer_eq_preLogs (s : State) : beginTransfer s = { s with resp := none, out := preLogs s } := by
  rw [beginTransfer_eq, beginTransfer_out]
  rfl

/-- A transfer completes with the byte it answers. -/
theorem completes_of_endTransfer {i : Instr} {s u v : State} {r : Byte} {trace : List OutEvent} {n : Nat}
    (h : exec i s = .next (endTransfer r v)) (hv : v = { u with resp := none, out := trace })
    (hn : u.syncPulse = n) : Completes i s u (some r) trace n :=
  completes_of_refresh h hv hn

/-! ### Headers -/

/-- A header completes with the status from before and a fresh access of the kind its target decodes to (R152 to R167). -/
theorem completes_of_accessHeader {i : Instr} {s : State} {t : Target} {isRead isBurst : Bool} {k : TargetKind}
    (h : exec i s = .next (accessHeader t isRead isBurst s)) (hk : decodeTarget s.cfg.fecSelect t = k) :
    Completes i s (opened s (busAfterHeader k isRead) (t.setWidth 8) isRead isBurst k)
      (some (status s)) (preLogs s) s.syncPulse := by
  refine completes_of_endTransfer (v := (beginTransfer s).setBus (busAfterHeader k isRead)
    (some ⟨t.setWidth 8, isRead, isBurst, k⟩)) ?answer ?opened rfl
  case answer =>
    subst hk
    rw [h, accessHeader, status_beginTransfer]
  case opened =>
    rw [beginTransfer_eq_preLogs]
    rfl

/-- A standard address is a register (R122). -/
theorem decodeTarget_of_stdAddressOk {a : Target} (h : stdAddressOk a = true) (fec : Bool) :
    decodeTarget fec a = .registers :=
  if_pos (of_decide_eq_true h)

/-- Settles O8: the target of each header is a register, and its RW and burst bits are the descriptor's. -/
theorem registerHeadersOpenAccess : Obligations.RegisterHeadersOpenAccess := by
  intro s a ha
  have hk := decodeTarget_of_stdAddressOk ha s.cfg.fecSelect
  exact ⟨completes_of_accessHeader (i := .wr a) rfl hk, completes_of_accessHeader (i := .rd a) rfl hk,
    completes_of_accessHeader (i := .wrb a) rfl hk, completes_of_accessHeader (i := .rdb a) rfl hk⟩

/-- Settles O9: target 0x2F is the extended registers, whose first phase is the address. -/
theorem extendedHeadersAwaitAddress : Obligations.ExtendedHeadersAwaitAddress := by
  intro s
  have hk : decodeTarget s.cfg.fecSelect 0x2F = .extendedRegisters := rfl
  exact ⟨completes_of_accessHeader (i := .ewr) rfl hk, completes_of_accessHeader (i := .erd) rfl hk,
    completes_of_accessHeader (i := .ewrb) rfl hk, completes_of_accessHeader (i := .erdb) rfl hk⟩

/-- Settles O10: target 0x3E is of the kind that FEC_SELECT picks, and either kind waits for an address. -/
theorem directHeadersAwaitAddress : Obligations.DirectHeadersAwaitAddress := by
  intro s k hk
  have hdec : decodeTarget s.cfg.fecSelect 0x3E = k := hk.symm
  have hbus : ∀ isRead, busAfterHeader k isRead = .waitingForAddress := by
    intro isRead
    subst hk
    cases s.cfg.fecSelect <;> rfl
  have opens : ∀ {i : Instr} {isRead isBurst : Bool}, exec i s = .next (accessHeader 0x3E isRead isBurst s) →
      Completes i s (opened s .waitingForAddress 0x3E isRead isBurst k) (some (status s)) (preLogs s) s.syncPulse := by
    intro i isRead isBurst h
    rw [← hbus isRead]
    exact completes_of_accessHeader h hdec
  exact ⟨opens (i := .dwr) rfl, opens (i := .drd) rfl, opens (i := .dwrb) rfl, opens (i := .drdb) rfl⟩

/-- Settles O11: target 0x3F is the standard FIFO, which has no address phase. -/
theorem fifoHeadersSkipAddress : Obligations.FifoHeadersSkipAddress := by
  intro s
  have hk : decodeTarget s.cfg.fecSelect 0x3F = .standardFifo := rfl
  exact ⟨completes_of_accessHeader (i := .fwr) rfl hk, completes_of_accessHeader (i := .frd) rfl hk,
    completes_of_accessHeader (i := .fwrb) rfl hk, completes_of_accessHeader (i := .frdb) rfl hk⟩

end Sys2Proof.Proofs
end

section
/-!
The operand bytes (40_bus_access.md R169 to R180): what each phase leaves as a whole state, and the obligations O12, O14,
O15, O17, O18, O19.
-/

namespace Sys2Proof.Proofs

open Sys2Proof Sys2Proof.Machine Sys2Proof.Spec

/-! ### The phases -/

/-- An address byte with a live descriptor answers 0x00 (R169). -/
theorem exec_addrByte {s : State} {d : AccessDescriptor} (hd : s.desc = some d) (x : Byte) :
    exec (.addrByte x) s = .next
      (endTransfer 0x00 ((beginTransfer s).setBus (busAfterAddress d.isRead) (some { d with addr := x }))) := by
  simp only [exec, execAddrByte, addressPhase, hd]

/-- A data byte of a kind that has a data phase answers the status from before the write (R170). -/
theorem exec_dataByte {s v : State} {d : AccessDescriptor} {b : Byte} (hd : s.desc = some d)
    (hv : dataWrite d b (beginTransfer s) = some v) :
    exec (.dataByte b) s = .next (endTransfer (status s) (phaseEnd d v)) := by
  simp only [exec, execDataByte, dataPhase, hd, hv, status_beginTransfer]

/-- A read-out byte of a kind that has a read-out phase answers its data (R175). -/
theorem exec_readoutByte {s v : State} {d : AccessDescriptor} {r x : Byte} (hd : s.desc = some d)
    (hv : readoutData d (beginTransfer s) = some (r, v)) :
    exec (.readoutByte x) s = .next (endTransfer r (phaseEnd d v)) := by
  simp only [exec, execReadoutByte, readoutPhase, hd, hv]

/-- The end of a phase is the state that the statements call `phased` (R180). -/
theorem phaseEnd_eq_phased (d : AccessDescriptor) (s : State) : phaseEnd d s = phased s d := by
  unfold phaseEnd phased nextDesc
  split
  · split <;> rfl
  · rfl

@[simp] theorem phased_syncPulse (s : State) (d : AccessDescriptor) : (phased s d).syncPulse = s.syncPulse := by
  unfold phased
  split <;> rfl

/-- A phase that leaves its state but for response and trace completes with them. -/
theorem completes_of_phaseEnd {i : Instr} {s u v : State} {d : AccessDescriptor} {r : Byte} {trace : List OutEvent}
    {n : Nat} (h : exec i s = .next (endTransfer r (phaseEnd d v)))
    (hv : phased v d = { u with resp := none, out := trace }) (hn : u.syncPulse = n) :
    Completes i s u (some r) trace n :=
  completes_of_endTransfer h ((phaseEnd_eq_phased d v).trans hv) hn

/-- The end of a phase leaves response and trace as they are. -/
theorem phased_resp_out (s : State) (d : AccessDescriptor) (r : Option Byte) (o : List OutEvent) :
    phased { s with resp := r, out := o } d = { phased s d with resp := r, out := o } := by
  unfold phased
  split <;> rfl

/-- Settles O12: an address byte writes the bus state and the address of the descriptor. -/
theorem addressByteSetsTarget : Obligations.AddressByteSetsTarget := by
  intro s d x hd
  refine completes_of_endTransfer (exec_addrByte hd x) ?_ rfl
  rw [beginTransfer_eq_preLogs]
  rfl

/-! ### The standard FIFO -/

/-- Settles O14, by whether the TX FIFO is full: the two branches of `Enqueue`. -/
theorem dataByteEnqueuesTx : Obligations.DataByteEnqueuesTx := by
  intro s d b hd hk
  have hexec : exec (.dataByte b) s = .next (endTransfer (status s) (phaseEnd d (enqueue .tx b (beginTransfer s)))) :=
    exec_dataByte hd (by rw [dataWrite, hk])
  refine ⟨fun hroom => completes_of_phaseEnd hexec ?room (phased_syncPulse s d),
    fun hfull => completes_of_phaseEnd hexec ?full (phased_syncPulse s d)⟩
  case room =>
    have henq : enqueue .tx b (beginTransfer s) =
        { s with resp := none, out := preLogs s, txFifo := s.txFifo ++ [b] } := by
      rw [beginTransfer_eq_preLogs]
      exact if_neg hroom
    rw [henq]
    unfold phased
    split <;> rfl
  case full =>
    have henq : enqueue .tx b (beginTransfer s) =
        { s with resp := none, out := preLogs s ++ [.log .txOverflow] } := by
      rw [beginTransfer_eq_preLogs]
      exact if_pos hfull
    rw [henq, phased_resp_out]

/-- Settles O17, by whether the RX FIFO is empty: the two clauses of `Dequeue`. -/
theorem readoutDequeuesRx : Obligations.ReadoutDequeuesRx := by
  intro s d x hd hk
  have hdata : readoutData d (beginTransfer s) = some (dequeue .rx (beginTransfer s)) := by
    rw [readoutData, hk]
  refine ⟨fun v rest hrx => ?head, fun hrx => ?empty⟩
  case head =>
    have hdeq : dequeue .rx (beginTransfer s) =
        (v, { s with resp := none, out := preLogs s, rxFifo := rest }) := by
      rw [beginTransfer_eq_preLogs]
      exact dequeue_of_fifo_cons hrx
    refine completes_of_phaseEnd (exec_readoutByte hd (hdata.trans (congrArg some hdeq))) ?_ (phased_syncPulse s d)
    unfold phased
    split <;> rfl
  case empty =>
    have hdeq : dequeue .rx (beginTransfer s) =
        (0x00, { s with resp := none, out := preLogs s ++ [.log .rxUnderflow] }) := by
      rw [beginTransfer_eq_preLogs]
      exact dequeue_of_fifo_nil hrx
    exact completes_of_phaseEnd (exec_readoutByte hd (hdata.trans (congrArg some hdeq))) (phased_resp_out s d _ _)
      (phased_syncPulse s d)

/-! ### The direct kinds -/

/-- The data phase of a direct access, of either kind (R174). -/
theorem dataWrite_of_isDirect {d : AccessDescriptor} (hk : isDirect d.kind) (b : Byte) (s : State) :
    dataWrite d b s = some (dataWriteDirect s) := by
  rcases hk with hk | hk <;> rw [dataWrite, hk]

/-- The read-out phase of a direct access, of either kind (R179). -/
theorem readoutData_of_isDirect {d : AccessDescriptor} (hk : isDirect d.kind) (s : State) :
    readoutData d s = some (readoutDirect d s) := by
  rcases hk with hk | hk <;> rw [readoutData, hk]

/-- Settles O15, by DIRECT_ACCESS_POLICY. -/
theorem directDataByteIsRefused : Obligations.DirectDataByteIsRefused := by
  intro s d b hd hk
  have hexec := exec_dataByte hd (dataWrite_of_isDirect hk b (beginTransfer s))
  refine ⟨fun hpol => completes_of_phaseEnd hexec ?refuse (phased_syncPulse s d),
    fun hpol => completes_of_phaseEnd hexec ?peek (phased_syncPulse s d)⟩
  case refuse =>
    rw [dataWriteDirect, beginTransfer_cfg, hpol, beginTransfer_eq_preLogs]
    unfold phased
    split <;> rfl
  case peek =>
    rw [dataWriteDirect, beginTransfer_cfg, hpol, beginTransfer_eq_preLogs]
    exact phased_resp_out s d _ _

/-- Settles O18, by DIRECT_ACCESS_POLICY. -/
theorem directReadoutIsRefused : Obligations.DirectReadoutIsRefused := by
  intro s d x hd hk
  have hdata := readoutData_of_isDirect hk (beginTransfer s)
  refine ⟨fun hpol => ?refuse, fun hpol => ?peek⟩
  case refuse =>
    have hread : readoutDirect d (beginTransfer s) = (Config.freeByte s.draws,
        { s with
          resp := none, out := preLogs s ++ [.log .unmodelledAccess], refused := true
          refusedReason := some .directAccessUnmodelled, draws := s.draws + 1 }) := by
      rw [readoutDirect, beginTransfer_cfg, hpol, beginTransfer_eq_preLogs]
      rfl
    refine completes_of_phaseEnd (exec_readoutByte hd (hdata.trans (congrArg some hread))) ?_ (phased_syncPulse s d)
    unfold phased
    split <;> rfl
  case peek =>
    have hread : readoutDirect d (beginTransfer s) =
        (if d.addr.toNat < 0x80 then s.txFifo.getD d.addr.toNat 0x00 else s.rxFifo.getD (d.addr.toNat - 0x80) 0x00,
          { s with resp := none, out := preLogs s }) := by
      rw [readoutDirect, beginTransfer_cfg, hpol, beginTransfer_eq_preLogs]
      rfl
    exact completes_of_phaseEnd (exec_readoutByte hd (hdata.trans (congrArg some hread))) (phased_resp_out s d _ _)
      (phased_syncPulse s d)

/-! ### Operand bytes without an access -/

/-- Settles O19: without a descriptor none of the three phases begins; a strobe has neither data nor read-out (R126). -/
theorem operandWithoutAccessFaults : Obligations.OperandWithoutAccessFaults := by
  intro s x
  refine ⟨fun hnone => ⟨?addr, ?data, ?readout⟩, fun d hd hk => ⟨?strobeData, ?strobeReadout⟩⟩
  case addr => simp only [exec, execAddrByte, addressPhase, hnone]
  case data => simp only [exec, execDataByte, dataPhase, hnone]
  case readout => simp only [exec, execReadoutByte, readoutPhase, hnone]
  case strobeData => simp only [exec, execDataByte, dataPhase, hd, dataWrite, hk]
  case strobeReadout => simp only [exec, execReadoutByte, readoutPhase, hd, readoutData, hk]

end Sys2Proof.Proofs
end

section
/-!
The register accesses (20_memory.md R80 to R85, 40_bus_access.md R171, R172, R176, R177): a register write and a register
read as whole states, and the obligations O13, O16, O52, O53.
-/

namespace Sys2Proof.Proofs

open Sys2Proof Sys2Proof.Machine Sys2Proof.Spec

/-! ### A register write -/

/-- The active pair after a stored cell is written: the one CRC_TABLE gives the new CRC_CFG, if the cell holds CRC_CFG and
the new value is not 0 (R84). -/
def pairAfterWrite (sp : Space) (a v : Byte) (s : State) : CrcPair :=
  if inCell s.cfg.regMap.crcCfg sp a then
    (crcPairOf s.cfg (crcCfgOf s.cfg v)).getD ⟨s.activePoly, s.activeSeed⟩
  else ⟨s.activePoly, s.activeSeed⟩

/-- The callback replaces the pair where CRC_TABLE gives one (R84). -/
theorem crcCfgWritten_eq (m : BitVec 2) (s : State) :
    crcCfgWritten m s = s.setCrcPair ((crcPairOf s.cfg m).getD ⟨s.activePoly, s.activeSeed⟩) := by
  unfold crcCfgWritten
  split <;> rename_i h <;> rw [h] <;> rfl

/-- A write of a stored cell writes the bank and the pair (R81, R84). -/
theorem regWrite_of_stored {sp : Space} {a : Byte} {s : State} (h : cellKind s.cfg sp a = .stored) (v : Byte) :
    regWrite sp a v s = (s.setCell sp a v).setCrcPair (pairAfterWrite sp a v s) := by
  rw [regWrite, h, pairAfterWrite]
  by_cases hin : inCell s.cfg.regMap.crcCfg sp a
  · simp only [liesIn_iff.mpr hin, if_pos hin, if_true, crcCfgWritten_eq]
    rfl
  · simp only [mt liesIn_iff.mp hin, if_neg hin]
    rfl

/-- A write of a computed cell is discarded with its log (R83). -/
theorem regWrite_of_computed {sp : Space} {a : Byte} {s : State} (h : cellKind s.cfg sp a = .computed) (v : Byte) :
    regWrite sp a v s = s.log .readOnlyWrite := by
  rw [regWrite, h]

/-- A write of an unbacked address is discarded with its log (R82). -/
theorem regWrite_of_unbacked {sp : Space} {a : Byte} {s : State} (h : cellKind s.cfg sp a = .unbacked) (v : Byte) :
    regWrite sp a v s = s.log .unbackedWrite := by
  rw [regWrite, h]

/-- The data phase of a register kind is a register write (R171, R172). -/
theorem dataWrite_of_spaceOf {d : AccessDescriptor} {sp : Space} (hk : spaceOf d.kind = some sp) (b : Byte) (s : State) :
    dataWrite d b s = some (regWrite sp d.addr b s) := by
  unfold dataWrite
  cases hkind : d.kind <;> rw [hkind] at hk <;> cases hk <;> rfl

/-- The read-out phase of a register kind is a register read (R176, R177). -/
theorem readoutData_of_spaceOf {d : AccessDescriptor} {sp : Space} (hk : spaceOf d.kind = some sp) (s : State) :
    readoutData d s = some (regRead sp d.addr s) := by
  unfold readoutData
  cases hkind : d.kind <;> rw [hkind] at hk <;> cases hk <;> rfl

/-- What a data phase can be: a register write, an enqueue, or the discarded byte of a direct access (R170 to R174). -/
theorem dataWrite_cases {d : AccessDescriptor} {b : Byte} {s v : State} (h : dataWrite d b s = some v) :
    (∃ sp, spaceOf d.kind = some sp ∧ v = regWrite sp d.addr b s) ∨
    (d.kind = .standardFifo ∧ v = enqueue .tx b s) ∨ (isDirect d.kind ∧ v = dataWriteDirect s) := by
  unfold dataWrite at h
  split at h <;> rename_i hk <;> cases h
  · exact .inl ⟨.std, by rw [hk]; rfl, rfl⟩
  · exact .inl ⟨.ext, by rw [hk]; rfl, rfl⟩
  · exact .inr (.inl ⟨hk, rfl⟩)
  · exact .inr (.inr ⟨.inl hk, rfl⟩)
  · exact .inr (.inr ⟨.inr hk, rfl⟩)

/-- What a read-out phase can be: a register read, a dequeue, or a direct read-out (R175 to R179). -/
theorem readoutData_cases {d : AccessDescriptor} {r : Byte} {s v : State} (h : readoutData d s = some (r, v)) :
    (∃ sp, spaceOf d.kind = some sp ∧ v = (regRead sp d.addr s).2) ∨
    (d.kind = .standardFifo ∧ v = (dequeue .rx s).2) ∨ (isDirect d.kind ∧ v = (readoutDirect d s).2) := by
  have hv : ∀ x : Byte × State, some x = some (r, v) → v = x.2 := fun x hx => by rw [Option.some.inj hx]
  unfold readoutData at h
  split at h <;> rename_i hk
  · exact .inl ⟨.std, by rw [hk]; rfl, hv _ h⟩
  · exact .inl ⟨.ext, by rw [hk]; rfl, hv _ h⟩
  · exact .inr (.inl ⟨hk, hv _ h⟩)
  · exact .inr (.inr ⟨.inl hk, hv _ h⟩)
  · exact .inr (.inr ⟨.inr hk, hv _ h⟩)
  · cases h

/-- Which pair a CRC_CFG value selects, written out (R237). -/
theorem pairAfterWrite_eq (sp : Space) (a v : Byte) (s : State) :
    ((pairAfterWrite sp a v s).poly, (pairAfterWrite sp a v s).seed) =
      if inCell s.cfg.regMap.crcCfg sp a then
        if crcCfgOf s.cfg v = 1 then (s.cfg.crcTable.mode1.poly, s.cfg.crcTable.mode1.seed)
        else if crcCfgOf s.cfg v = 2 then (s.cfg.crcTable.mode2.poly, s.cfg.crcTable.mode2.seed)
        else if crcCfgOf s.cfg v = 3 then (s.cfg.crcTable.mode3.poly, s.cfg.crcTable.mode3.seed)
        else (s.activePoly, s.activeSeed)
      else (s.activePoly, s.activeSeed) := by
  unfold pairAfterWrite crcPairOf
  split_ifs <;> rfl

/-- Settles O13, by what REG_MAP makes of the address. -/
theorem dataByteWritesOneCell : Obligations.DataByteWritesOneCell := by
  intro s d b sp hd hk
  have hexec := exec_dataByte hd (dataWrite_of_spaceOf hk b (beginTransfer s))
  refine ⟨fun hkind => ?stored, fun hkind => completes_of_phaseEnd hexec ?computed (phased_syncPulse s d),
    fun hkind => completes_of_phaseEnd hexec ?unbacked (phased_syncPulse s d)⟩
  case stored =>
    refine ⟨Memory.write s.cfg (cellKey sp d.addr) b s.bank, (pairAfterWrite sp d.addr b s).poly,
      (pairAfterWrite sp d.addr b s).seed, completes_of_phaseEnd hexec ?whole (phased_syncPulse s d),
      fun hwf => ⟨wf_write _ _ _ _ hwf, fun k => read_write _ _ _ _ _ hwf⟩, pairAfterWrite_eq sp d.addr b s⟩
    case whole =>
      rw [regWrite_of_stored (s := beginTransfer s) (by rwa [beginTransfer_cfg]), beginTransfer_eq_preLogs]
      unfold phased
      split <;> rfl
  case computed =>
    rw [regWrite_of_computed (s := beginTransfer s) (by rwa [beginTransfer_cfg]), beginTransfer_eq_preLogs]
    exact phased_resp_out s d _ _
  case unbacked =>
    rw [regWrite_of_unbacked (s := beginTransfer s) (by rwa [beginTransfer_cfg]), beginTransfer_eq_preLogs]
    exact phased_resp_out s d _ _

/-! ### A register read -/

/-- A stored cell reads as WRITE_ONLY_READBACK says, and nothing changes (R80). -/
theorem regRead_of_stored {sp : Space} {a : Byte} {s : State} (h : cellKind s.cfg sp a = .stored) :
    regRead sp a s = (readBack s sp a (s.cell sp a), s) := by
  rw [regRead, h]

/-- A computed cell reads from the state, and nothing changes (R80). -/
theorem regRead_of_computed {sp : Space} {a : Byte} {s : State} (h : cellKind s.cfg sp a = .computed) :
    regRead sp a s = (computedValue s sp a, s) := by
  rw [regRead, h]

/-- An unbacked address reads 0x00 with its log (R82). -/
theorem regRead_of_unbacked {sp : Space} {a : Byte} {s : State} (h : cellKind s.cfg sp a = .unbacked) :
    regRead sp a s = (0x00, s.log .unbackedRead) := by
  rw [regRead, h]

/-- A computed field's part of a cell, as the statements write it. -/
theorem computedPart_eq {w : Nat} (p : FieldPos) (sp : Space) (a : Byte) (v : BitVec w) :
    computedPart p sp a v = if inCell p sp a then bitsAt p v else 0 := by
  unfold computedPart
  simp only [liesIn_iff]
  rfl

/-- The byte of a computed cell, as the statements write it (R39 to R41). -/
theorem computedValue_eq_computedByte (s : State) (sp : Space) (a : Byte) :
    computedValue s sp a = computedByte s sp a := by
  simp only [computedValue, computedPart_eq, computedByte]

/-- Under WRITE_ONLY_READBACK = Stored a cell reads back as it is (R80). -/
theorem readBack_of_stored {s : State} (h : s.cfg.writeOnlyReadback = .stored) (sp : Space) (a v : Byte) :
    readBack s sp a v = v := by
  rw [readBack, h]

/-- Under WRITE_ONLY_READBACK = Zero the bits of the write-only fields read as zero, and the others as they are (R80). -/
theorem getLsbD_readBack_of_zero {s : State} (h : s.cfg.writeOnlyReadback = .zero) (sp : Space) (a v : Byte) {i : Nat}
    (hi : i < 8) : (readBack s sp a v).getLsbD i = true ↔ v.getLsbD i = true ∧
      ∀ p ∈ s.cfg.regMap.writeOnlyFields, ¬(inCell p sp a ∧ p.lo ≤ i ∧ i < p.lo + p.width) := by
  have hfield : ∀ p : FieldPos, (p.liesIn sp a && p.mask.getLsbD i) = true ↔
      inCell p sp a ∧ p.lo ≤ i ∧ i < p.lo + p.width := by
    intro p
    simp only [getLsbD_mask, Bool.and_eq_true, liesIn_iff, decide_eq_true_eq, hi, true_and]
  have hhidden : (hiddenBits s.cfg sp a).getLsbD i = false ↔
      ∀ p ∈ s.cfg.regMap.writeOnlyFields, ¬(inCell p sp a ∧ p.lo ≤ i ∧ i < p.lo + p.width) := by
    simp only [getLsbD_hiddenBits, List.any_eq_false, hfield]
  rw [← hhidden]
  simp [readBack, h, hi]

/-- Settles O16, by what REG_MAP makes of the address. -/
theorem readoutAnswersCell : Obligations.ReadoutAnswersCell := by
  intro s d x sp hd hk
  have hdata := readoutData_of_spaceOf hk (beginTransfer s)
  have complete : ∀ {v : Byte} {o : List OutEvent},
      regRead sp d.addr (beginTransfer s) = (v, { s with resp := none, out := o }) →
      Completes (.readoutByte x) s (phased s d) (some v) o s.syncPulse := fun hread =>
    completes_of_phaseEnd (exec_readoutByte hd (hdata.trans (congrArg some hread))) (phased_resp_out s d _ _)
      (phased_syncPulse s d)
  refine ⟨fun hkind => ?stored, fun hkind => complete ?computed, fun hkind => complete ?unbacked⟩
  case stored =>
    refine ⟨readBack s sp d.addr (s.cell sp d.addr), complete ?read,
      fun hstored => readBack_of_stored hstored _ _ _, fun hzero i hi => getLsbD_readBack_of_zero hzero _ _ _ hi⟩
    case read =>
      rw [regRead_of_stored (s := beginTransfer s) (by rwa [beginTransfer_cfg]), beginTransfer_eq_preLogs]
      rfl
  case computed =>
    rw [regRead_of_computed (s := beginTransfer s) (by rwa [beginTransfer_cfg]), beginTransfer_eq_preLogs,
      computedValue_eq_computedByte]
    rfl
  case unbacked =>
    rw [regRead_of_unbacked (s := beginTransfer s) (by rwa [beginTransfer_cfg]), beginTransfer_eq_preLogs]
    rfl

/-! ### The default register map -/

/-- A field that is a whole byte of its cell. -/
theorem slice_byte (p : FieldPos) (hlo : p.lo = 0) (hwidth : p.width = 8) (v : Byte) : p.slice 8 v = v := by
  apply BitVec.eq_of_getLsbD_eq
  intro i hi
  rw [getLsbD_slice, hlo, hwidth]
  simp [hi]

/-- The three cells of the frequency word in the default map, FREQ2 first (R38). -/
theorem freq_of_defaultMap {s : State} (hmap : s.cfg.regMap = defaultConfig.regMap) :
    freq s = s.cell .ext 0x0C ++ s.cell .ext 0x0D ++ s.cell .ext 0x0E := by
  unfold freq State.field bankField
  rw [hmap, slice_byte _ rfl rfl, slice_byte _ rfl rfl, slice_byte _ rfl rfl]
  rfl

/-- The three frequency cells are stored cells of the default map, whatever else is declared (R38). -/
theorem cellKind_freq {c : Config} (hmap : c.regMap = defaultConfig.regMap) {a : Byte}
    (ha : a ∈ ([0x0C, 0x0D, 0x0E] : List Byte)) : cellKind c .ext a = .stored := by
  have hcomputed : ∀ a ∈ ([0x0C, 0x0D, 0x0E] : List Byte),
      defaultRegMap.computedFields.any (·.liesIn .ext a) = false := by decide
  have hstored : ∀ a ∈ ([0x0C, 0x0D, 0x0E] : List Byte),
      defaultRegMap.storedFields.any (·.liesIn .ext a) = true := by decide
  have hmap' : c.regMap = defaultRegMap := hmap
  simp only [cellKind, storedCell, hmap', hcomputed a ha, hstored a ha, Bool.true_or, if_true, Bool.false_eq_true,
    if_false]

/-- Settles O52: the written cell is one of the three the word is made of, and the other two read as before. -/
theorem frequencySlicesAreSeparate : Obligations.FrequencySlicesAreSeparate := by
  intro s d b hmap hwf hd hk
  have hsp : spaceOf d.kind = some .ext := by rw [hk]; rfl
  refine ⟨_, exec_dataByte hd (dataWrite_of_spaceOf hsp b (beginTransfer s)), ?_⟩
  generalize ht : endTransfer (status s) (phaseEnd d (regWrite .ext d.addr b (beginTransfer s))) = t
  have hcfg : t.cfg = s.cfg := by
    rw [← ht, endTransfer_cfg, phaseEnd_eq]
    simp
  have hcell : d.addr ∈ ([0x0C, 0x0D, 0x0E] : List Byte) →
      ∀ a, t.cell .ext a = if a = d.addr then b else s.cell .ext a := by
    intro ha a
    have hbank : t.bank = (s.setCell .ext d.addr b).bank := by
      rw [← ht, endTransfer_bank, phaseEnd_eq, setBus_bank, regWrite_bank, beginTransfer_cfg, beginTransfer_bank,
        if_pos (cellKind_freq hmap ha), setCell_bank]
    rw [cell_congr (t := s.setCell .ext d.addr b) hcfg hbank, cell_setCell hwf]
    simp only [true_and]
  have hfreq := freq_of_defaultMap (s := t) (by rw [hcfg, hmap])
  refine ⟨fun ha => ?high, fun ha => ?middle, fun ha => ?low⟩
  all_goals
    have hcell := hcell (by rw [ha]; decide)
    rw [hfreq, hcell, hcell, hcell, ha]
    rfl

/-- The five computed cells of the default map (R39 to R41). -/
theorem cellKind_computed_of_defaultMap {c : Config} (hmap : c.regMap = defaultConfig.regMap) {a : Byte}
    (ha : a ∈ ([0x71, 0x74, 0x8F, 0xD6, 0xD7] : List Byte)) : cellKind c .ext a = .computed := by
  have hcomputed : ∀ a ∈ ([0x71, 0x74, 0x8F, 0xD6, 0xD7] : List Byte),
      defaultRegMap.computedFields.any (·.liesIn .ext a) = true := by decide
  have hmap' : c.regMap = defaultRegMap := hmap
  simp only [cellKind, hmap', hcomputed a ha, if_true]

/-- A whole byte placed in its cell is that byte. -/
theorem place_byte (p : FieldPos) (hlo : p.lo = 0) (hwidth : p.width = 8) (v : Byte) : p.place v = v := by
  apply BitVec.eq_of_getLsbD_eq
  intro i hi
  rw [getLsbD_place, hlo, hwidth]
  simp [hi]

/-- PKT_CRC_OK and LQI_EST share the cell LQI_VAL, bit 7 and the bits below it (R40). -/
theorem place_crcOk_or_place_lqi (crcOk : Bool) (lqi : BitVec 7) :
    defaultRegMap.pktCrcOk.place (BitVec.ofBool crcOk) ||| defaultRegMap.lqiEst.place lqi =
      BitVec.ofBool crcOk ++ lqi := by
  cases crcOk <;> revert lqi <;> decide

/-- Settles O53: each cell holds the fields that lie there and no other, and a write of any of the five is discarded. -/
theorem computedCellsOfDefaultMap : Obligations.ComputedCellsOfDefaultMap := by
  intro s v hmap
  have hmap' : s.cfg.regMap = defaultRegMap := hmap
  have read : ∀ a ∈ ([0x71, 0x74, 0x8F, 0xD6, 0xD7] : List Byte), regRead .ext a s = (computedValue s .ext a, s) :=
    fun a ha => regRead_of_computed (cellKind_computed_of_defaultMap hmap ha)
  refine ⟨?rssi, ?lqi, ?part, ?tx, ?rx, fun a ha => regWrite_of_computed (cellKind_computed_of_defaultMap hmap ha) v⟩
  case lqi =>
    rw [read _ (by decide), ← place_crcOk_or_place_lqi]
    simp [computedValue, computedPart, hmap', FieldPos.liesIn, defaultRegMap]
  all_goals
    rw [read _ (by decide)]
    simp [computedValue, computedPart, hmap', FieldPos.liesIn, defaultRegMap, place_byte]

end Sys2Proof.Proofs
end

section
/-!
The strobes (41_command_strobes.md R200 to R215): what each command leaves as a whole state, the transmit pipeline in its two
ways (44_frame_transmit.md R290 to R297), and the obligations O21 to O29.
-/

namespace Sys2Proof.Proofs

open Sys2Proof Sys2Proof.Machine Sys2Proof.Spec

/-! ### Strobe headers -/

/-- A strobe completes with the status from before, what its command leaves of the state a transfer starts with, and no
access in progress (R168). -/
theorem completes_of_strobeHeader {i : Instr} {s u : State} {t : Target} {rw b : Bool} {trace : List OutEvent} {n : Nat}
    (h : exec i s = .next (strobeHeader t rw b s))
    (hv : (execStrobe t { s with resp := none, out := preLogs s }).setBus .waitingForHeader none =
      { u with resp := none, out := trace })
    (hn : u.syncPulse = n) : Completes i s u (some (status s)) trace n := by
  rw [strobeHeader_eq, beginTransfer_eq_preLogs] at h
  exact completes_of_endTransfer h hv hn

/-- A strobe that its map calls unknown is only logged (R215). -/
theorem completes_of_unknown {i : Instr} {s : State} {t : Target} {rw b : Bool}
    (h : exec i s = .next (strobeHeader t rw b s)) (hcmd : strobeOf s.cfg t = .unknown) :
    Completes i s (ended s) (some (status s)) (preLogs s ++ [.log .unknownStrobe]) s.syncPulse := by
  refine completes_of_strobeHeader h ?_ rfl
  rw [execStrobe_eq]
  simp only [hcmd]
  rfl

/-- Settles O22: the command NoOperation leaves everything, and Unknown only logs. -/
theorem idleStrobesChangeNothing : Obligations.IdleStrobesChangeNothing := by
  intro s rw b
  refine ⟨fun hcmd => completes_of_strobeHeader (i := .snop rw b) rfl ?noOperation rfl,
    completes_of_unknown (i := .sxoff rw b) rfl, completes_of_unknown (i := .scal rw b) rfl,
    completes_of_unknown (i := .safc rw b) rfl, completes_of_unknown (i := .swor rw b) rfl,
    completes_of_unknown (i := .sworrst rw b) rfl⟩
  case noOperation =>
    rw [execStrobe_eq]
    simp only [hcmd]
    rfl

/-- A strobe whose command writes a mode other than ReceiveMode and nothing else. -/
theorem completes_of_writeMode {i : Instr} {s : State} {t : Target} {rw b : Bool} {m : ChipMode}
    (h : exec i s = .next (strobeHeader t rw b s))
    (hcmd : ∀ u : State, u.cfg = s.cfg → execStrobe t u = u.writeMode m) :
    Completes i s { ended s with mode := m } (some (status s)) (preLogs s) s.syncPulse := by
  refine completes_of_strobeHeader h ?_ rfl
  rw [hcmd { s with resp := none, out := preLogs s } rfl]
  rfl

/-- Settles O23: the commands Calibrate, GoIdle and Sleep each write one mode. -/
theorem modeStrobesSetMode : Obligations.ModeStrobesSetMode := by
  intro s rw b
  refine ⟨fun hcmd => completes_of_writeMode (i := .sfstxon rw b) rfl fun u hu => ?fstxon,
    fun hcmd => completes_of_writeMode (i := .scal rw b) rfl fun u hu => ?cal,
    fun hcmd => completes_of_writeMode (i := .sidle rw b) rfl fun u hu => ?idle,
    fun hcmd => completes_of_writeMode (i := .spwd rw b) rfl fun u hu => ?sleep⟩
  all_goals rw [execStrobe_eq, hu, hcmd]

/-- Settles O24: the commands FlushRX and FlushTX each empty one FIFO. -/
theorem flushStrobesEmptyFifo : Obligations.FlushStrobesEmptyFifo := by
  intro s rw b
  refine ⟨fun hcmd => completes_of_strobeHeader (i := .sfrx rw b) rfl ?rx rfl,
    fun hcmd => completes_of_strobeHeader (i := .sftx rw b) rfl ?tx rfl⟩
  all_goals
    rw [execStrobe_eq]
    simp only [hcmd]
    rfl

/-- Settles O28: the reset routine writes every field of the device; the start of the transfer only the response and the
trace. -/
theorem sresResetsDevice : Obligations.SresResetsDevice := by
  intro s rw b hcmd
  refine completes_of_strobeHeader (i := .sres rw b) rfl ?_ rfl
  rw [execStrobe_eq]
  simp only [hcmd]
  rfl

/-- Settles O29: after the transfer has begun, only the command decides. -/
theorem strobeEffectIsItsCommand : Obligations.StrobeEffectIsItsCommand := by
  intro s t u rw b rw' b' i j hi hj hcmd
  have hexec : execStrobe t (beginTransfer s) = execStrobe u (beginTransfer s) := by
    rw [execStrobe_eq, execStrobe_eq, beginTransfer_cfg, hcmd]
  rw [exec_strobe hi, exec_strobe hj, strobeHeader_eq, strobeHeader_eq, hexec]

/-- Settles O21: the default map, evaluated at each code. -/
theorem defaultStrobeTable : Obligations.DefaultStrobeTable := by
  intro s hcfg
  rw [hcfg]
  refine ⟨?_, ?_, ?_, ?_, ?_, ?_, ?_, ?_, ?_, ?_, ?_, ?_, ?_, ?_⟩ <;> decide

/-! ### Entering ReceiveMode -/

/-- A state without a response is itself with its own response and trace. -/
theorem with_resp_out_self {p : State} (h : p.resp = none) : { p with resp := none, out := p.out } = p := by
  rw [← h]

/-- Settles O25, by whether the strobe enters ReceiveMode with a frame pending. -/
theorem srxProcessesPending : Obligations.SrxProcessesPending := by
  intro s rw b hcmd
  have hexec : execStrobe 0x34 { s with resp := none, out := preLogs s } =
      setMode .receiveMode { s with resp := none, out := preLogs s } := by
    rw [execStrobe_eq]
    simp only [hcmd]
  refine ⟨fun hnone => completes_of_strobeHeader (i := .srx rw b) rfl ?written rfl,
    fun f p hmode hpend hp => completes_of_strobeHeader (i := .srx rw b) rfl ?processed rfl⟩
  case written =>
    have hwrite : setMode .receiveMode { s with resp := none, out := preLogs s } =
        ({ s with resp := none, out := preLogs s } : State).writeMode .receiveMode := by
      rcases hnone with hmode | hpend
      · exact setMode_of_receiveMode _ _ hmode
      · exact setMode_of_pending_none _ _ hpend
    rw [hexec, hwrite]
    rfl
  case processed =>
    have hresp : p.resp = none := by rw [hp, processFrame_resp]
    have hentry : setMode .receiveMode { s with resp := none, out := preLogs s } = p := by
      rw [setMode_entry { s with resp := none, out := preLogs s } f hmode hpend, hp]
      rfl
    rw [hexec, hentry, ended, ← with_resp_out_self hresp]
    rfl

/-! ### The transmit pipeline -/

/-- The TX-off mode is ReceiveMode for one value of its field (R34, R35). -/
theorem offMode_eq_receiveMode_iff (v : BitVec 2) : offMode v = .receiveMode ↔ v = 3 := by
  revert v
  decide

/-- A transmit that aborts logs, clears the TX FIFO and sends nothing (R292). -/
theorem runTx_of_txAborts {s : State} (h : TxAborts s) : runTx s = { s with
    txFifo := [], out := s.out ++ txUnderflows s ++ [.log .modeSwitchUnsupported] } := by
  obtain ⟨hg, hms⟩ := h
  rw [runTx, popHeader_eq]
  refine (if_pos ?_).trans rfl
  rw [Bool.and_eq_true]
  exact ⟨hg, hms⟩

/-- A transmit that does not abort sends the header, the payload and the FCS as one frame, then goes to the TX-off mode and
pulses (R293 to R297). -/
theorem runTx_of_not_txAborts {s : State} (h : ¬TxAborts s) : runTx s = pulseSync (setMode (offMode (txoffMode s))
    { s with txFifo := [], out := s.out ++ txUnderflows s ++ [.frameSent (txSent s)] }) := by
  rw [runTx, popHeader_eq]
  refine (if_neg ?_).trans ?_
  · rw [Bool.and_eq_true]
    exact h
  · have hrest : (if gMode s then [s.txFifo.tail.headD 0x00] else []) ++
        (if gMode s then s.txFifo.tail.tail else s.txFifo.tail) = txRest s := by
      unfold txRest
      split <;> rfl
    simp only [sendFrame, hrest]
    rfl

/-! ### Two Refreshes in one event -/

/-- Whether a role asks for a level does not depend on the state (R313 to R320). -/
theorem roleLevel_eq_none_iff (s : State) (r : GpioRole) : roleLevel s r = none ↔ r = .unsupported := by
  cases r <;> simp [roleLevel]

/-- A second Refresh of what a first one left shows what one Refresh shows: a role's level is computed anew, an unsupported
role keeps its level twice, and the latch between its bounds is kept twice. -/
theorem refreshedFrom_trans {u v t : State} (huv : RefreshedFrom u v) (hvt : RefreshedFrom v t) (hc : v.cfg = t.cfg)
    (hb : v.bank = t.bank) (htx : v.txFifo = t.txFifo) : RefreshedFrom u t := by
  obtain ⟨-, hlevel, hlatch⟩ := huv
  obtain ⟨hmiso', hlevel', hlatch'⟩ := hvt
  refine ⟨hmiso', fun i => ?levels, ?latch⟩
  case levels =>
    have hget := hlevel i
    rw [lineRole_congr hc hb] at hget
    rw [hlevel' i]
    rcases hr : roleLevel t (lineRole t i) with _ | v'
    · rw [(roleLevel_eq_none_iff v _).mpr ((roleLevel_eq_none_iff t _).mp hr)] at hget
      exact hget
    · rfl
  case latch =>
    rw [hlatch', hlatch, htx, hc, fifoThr_congr hc hb]
    split_ifs <;> rfl

/-- The pulse and its Refresh as a whole state (R275, R297). -/
theorem pulseSync_eq (s : State) : pulseSync s = { s with
    gpio := (pulseSync s).gpio, txFullLatch := (pulseSync s).txFullLatch, syncPulse := 0
    out := s.out ++ lineTrace s (s.syncPulse + 1) } :=
  refresh_eq { s with syncPulse := s.syncPulse + 1 }

/-- What the Refresh of a pulse leaves of the levels and the latch. -/
theorem refreshedFrom_pulseSync (s : State) : RefreshedFrom s (pulseSync s) :=
  refreshedFrom_congr (refreshedFrom_refresh { s with syncPulse := s.syncPulse + 1 }) rfl rfl

/-- A transfer that ends in a pulse completes with the pulse consumed before its last Refresh. -/
theorem completes_of_pulseSync {i : Instr} {s u v : State} {r : Byte} {trace : List OutEvent} {n : Nat}
    (h : exec i s = .next (endTransfer r (pulseSync v))) (hv : v = { u with resp := none, out := trace })
    (hn : u.syncPulse + 1 = n) : Completes i s u (some r) (trace ++ lineTrace u n) 0 := by
  have hpulse : pulseSync v = { u with
      gpio := (pulseSync v).gpio, txFullLatch := (pulseSync v).txFullLatch, syncPulse := 0, resp := none
      out := trace ++ lineTrace u n } := by
    refine (pulseSync_eq v).trans ?_
    generalize pulseSync v = w
    subst hv hn
    rfl
  generalize hg : (pulseSync v).gpio = g at hpulse
  generalize hl : (pulseSync v).txFullLatch = l at hpulse
  obtain ⟨t, ht, hrefreshed, hwhole⟩ := completes_of_endTransfer
    (u := { u with gpio := g, txFullLatch := l, syncPulse := 0 }) h hpulse rfl
  have hfirst : RefreshedFrom u (pulseSync v) :=
    refreshedFrom_congr (refreshedFrom_pulseSync v) (by rw [hv]) (by rw [hv])
  have hsecond : RefreshedFrom (pulseSync v) t := refreshedFrom_congr hrefreshed hg hl
  have hcfg : (pulseSync v).cfg = t.cfg := by rw [hwhole, pulseSync_cfg, hv]
  have hbank : (pulseSync v).bank = t.bank := by rw [hwhole, pulseSync_bank, hv]
  have htx : (pulseSync v).txFifo = t.txFifo := by rw [hwhole, pulseSync_txFifo, hv]
  exact ⟨t, ht, refreshedFrom_trans hfirst hsecond hcfg hbank htx, hwhole⟩

/-! ### STX -/

/-- The STX strobe under its map's entry runs the transmit pipeline in TransmitMode (R206). -/
theorem exec_stx {s : State} (rw b : Bool) (hcmd : strobeOf s.cfg 0x35 = .enableTx) :
    exec (.stx rw b) s = .next (endTransfer (status s)
      ((runTx { s with mode := .transmitMode, resp := none, out := preLogs s }).setBus .waitingForHeader none)) := by
  have hexec : exec (.stx rw b) s = .next (strobeHeader 0x35 rw b s) := rfl
  rw [hexec, strobeHeader_eq, execStrobe_eq, beginTransfer_cfg]
  simp only [hcmd, beginTransfer_eq_preLogs]
  rfl

/-- Settles O27: the aborted transmit of a state in TransmitMode, which gives no pulse. -/
theorem stxAbortsOnModeSwitch : Obligations.StxAbortsOnModeSwitch := by
  intro s rw b hcmd habort
  have habort' : TxAborts { s with mode := .transmitMode, resp := none, out := preLogs s } := habort
  refine completes_of_endTransfer (exec_stx rw b hcmd) ?_ rfl
  rw [runTx_of_txAborts habort']
  rfl

/-- What an STX strobe that does not abort has done when it comes to the TX-off mode (R290 to R296). -/
def stxSent (s : State) : State := { s with
  mode := .transmitMode, txFifo := [], resp := none
  out := preLogs s ++ txUnderflows s ++ [.frameSent (txSent s)] }

/-- An STX strobe that does not abort: the frame, the TX-off mode, the pulse (R293 to R297). -/
theorem exec_stx_of_not_txAborts {s : State} (rw b : Bool) (hcmd : strobeOf s.cfg 0x35 = .enableTx)
    (hsend : ¬TxAborts s) : exec (.stx rw b) s = .next (endTransfer (status s)
      (pulseSync ((setMode (offMode (txoffMode s)) (stxSent s)).setBus .waitingForHeader none))) := by
  have hsend' : ¬TxAborts { s with mode := .transmitMode, resp := none, out := preLogs s } := hsend
  rw [exec_stx rw b hcmd, runTx_of_not_txAborts hsend', pulseSync_setBus]
  rfl

/-- Settles O26, by whether the TX-off mode enters ReceiveMode with a frame pending: in either case the transmit is a frame,
a mode and a pulse. -/
theorem stxSendsWholeFifo : Obligations.StxSendsWholeFifo := by
  intro s rw b hcmd hsend
  have hexec := exec_stx_of_not_txAborts rw b hcmd hsend
  refine ⟨fun hnone => completes_of_pulseSync hexec ?written rfl, fun f p hoff hpend hp => ?processed⟩
  case written =>
    rcases hnone with hoff | hpend
    · rw [setMode_of_ne_receiveMode _ _ (mt (offMode_eq_receiveMode_iff _).mp hoff)]
      rfl
    · rw [setMode_of_pending_none _ (stxSent s) hpend]
      rfl
  case processed =>
    have hresp : p.resp = none := by rw [hp, processFrame_resp]
    have hroles : lineTrace s (p.syncPulse + 1) = lineTrace (ended p) (p.syncPulse + 1) :=
      lineTrace_congr (by rw [hp]; simp [ended]) (by rw [hp]; simp [ended]) _
    have hentry : setMode .receiveMode (stxSent s) = p := by
      rw [setMode_entry (stxSent s) f (by simp [stxSent]) hpend, hp]
      rfl
    rw [(offMode_eq_receiveMode_iff _).mpr hoff, hentry] at hexec
    rw [hroles]
    refine completes_of_pulseSync hexec ?_ rfl
    rw [ended, ← with_resp_out_self hresp]
    rfl

end Sys2Proof.Proofs
end

section
/-!
The transition table of the bus (40_bus_access.md R182) and the events that are no bytes: chip select (R181), a frame
(43_frame_receive.md R250) and the resets (70_reset_and_hazards.md R370 to R373). The obligations O20, O30, O31, O36, O37.
-/

namespace Sys2Proof.Proofs

open Sys2Proof Sys2Proof.Machine Sys2Proof.Spec

/-! ### The transition table -/

/-- A strobe code is a target of kind CommandStrobe (R122, R123). -/
theorem decodeTarget_of_decodeStrobe {t : Target} {rw b : Bool} {i : Instr} (h : decodeStrobe t rw b = some i)
    (fec : Bool) : decodeTarget fec t = .commandStrobe := by
  have hcode : ¬(t.toNat < 0x30 ∨ 0x3D < t.toNat) := by
    rw [← decodeStrobe_eq_none_iff t rw b, h]
    simp
  unfold decodeTarget
  rw [if_neg (by omega), if_neg (by omega), if_pos (by omega)]

/-- What a header byte does: a strobe, or the header of an access, by the kind of its target (R151 to R168). -/
theorem exec_decodeHeader (l : HeaderBits) (h : Byte) (s : State) : exec (decodeHeader l h) s = .next
    (if decodeTarget s.cfg.fecSelect (hdrTarget h) = .commandStrobe
      then strobeHeader (hdrTarget h) (hdrRw l h) (hdrBurst l h) s
      else accessHeader (hdrTarget h) (hdrRw l h) (hdrBurst l h) s) := by
  have access : ∀ {t : Target} {rw b : Bool} {i : Instr}, decodeTarget s.cfg.fecSelect t ≠ .commandStrobe →
      exec i s = .next (accessHeader t rw b s) → exec i s = .next (if decodeTarget s.cfg.fecSelect t = .commandStrobe
        then strobeHeader t rw b s else accessHeader t rw b s) := fun hk hexec => by rw [if_neg hk, hexec]
  refine decodeHeader_cases (motive := fun t rw b i => exec i s = .next (if decodeTarget s.cfg.fecSelect t = .commandStrobe
    then strobeHeader t rw b s else accessHeader t rw b s)) (register := fun a ha => ?register) (extended := ?extended)
    (strobe := fun t rw b i hs => ?strobe) (direct := ?direct) (fifo := ?fifo) l h
  case register =>
    have hk : decodeTarget s.cfg.fecSelect a ≠ .commandStrobe := by rw [decodeTarget_of_stdAddressOk ha]; simp
    exact ⟨access hk rfl, access hk rfl, access hk rfl, access hk rfl⟩
  case extended =>
    have hk : decodeTarget s.cfg.fecSelect 0x2F ≠ .commandStrobe := by simp [decodeTarget]
    exact ⟨access hk rfl, access hk rfl, access hk rfl, access hk rfl⟩
  case strobe => rw [if_pos (decodeTarget_of_decodeStrobe hs _), exec_strobe hs]
  case direct =>
    have hk : decodeTarget s.cfg.fecSelect 0x3E ≠ .commandStrobe := by cases s.cfg.fecSelect <;> decide
    exact ⟨access hk rfl, access hk rfl, access hk rfl, access hk rfl⟩
  case fifo =>
    have hk : decodeTarget s.cfg.fecSelect 0x3F ≠ .commandStrobe := by simp [decodeTarget]
    exact ⟨access hk rfl, access hk rfl, access hk rfl, access hk rfl⟩

/-- A strobe ends with no access in progress (R168). -/
theorem strobeHeader_bus (t : Target) (rw b : Bool) (s : State) :
    (strobeHeader t rw b s).bus = .waitingForHeader := by
  rw [strobeHeader_eq, endTransfer_bus, setBus_bus]

/-- The header of an access leaves the bus state that its kind and its RW bit give (R152 to R167). -/
theorem accessHeader_bus (t : Target) (isRead isBurst : Bool) (s : State) :
    (accessHeader t isRead isBurst s).bus = busAfterHeader (decodeTarget s.cfg.fecSelect t) isRead := by
  rw [accessHeader, endTransfer_bus, setBus_bus]

/-- A phase ends in the bus state that the burst bit gives (R180). -/
theorem phaseEnd_bus (d : AccessDescriptor) (s : State) : (phaseEnd d s).bus = busAfterPhase s.bus d.isBurst := by
  unfold phaseEnd busAfterPhase
  split <;> rfl

/-- An address byte that answers a next state had a live descriptor. -/
theorem addrByte_next {x : Byte} {s t : State} (h : exec (.addrByte x) s = .next t) : ∃ d, s.desc = some d ∧
    t = endTransfer 0x00 ((beginTransfer s).setBus (busAfterAddress d.isRead) (some { d with addr := x })) := by
  rcases hd : s.desc with _ | d
  · rw [((operandWithoutAccessFaults s x).1 hd).1] at h
    cases h
  · rw [exec_addrByte hd] at h
    exact ⟨d, rfl, (Host.Outcome.next.inj h).symm⟩

/-- A data byte that answers a next state had a live descriptor of a kind with a data phase. -/
theorem dataByte_next {b : Byte} {s t : State} (h : exec (.dataByte b) s = .next t) :
    ∃ d v, s.desc = some d ∧ dataWrite d b (beginTransfer s) = some v ∧
      t = endTransfer (status s) (phaseEnd d v) := by
  rcases hd : s.desc with _ | d
  · rw [((operandWithoutAccessFaults s b).1 hd).2.1] at h
    cases h
  · rcases hv : dataWrite d b (beginTransfer s) with _ | v
    · simp [exec, execDataByte, dataPhase, hd, hv] at h
    · rw [exec_dataByte hd hv] at h
      exact ⟨d, v, rfl, hv, (Host.Outcome.next.inj h).symm⟩

/-- A read-out byte that answers a next state had a live descriptor of a kind with a read-out phase. -/
theorem readoutByte_next {x : Byte} {s t : State} (h : exec (.readoutByte x) s = .next t) :
    ∃ d r v, s.desc = some d ∧ readoutData d (beginTransfer s) = some (r, v) ∧ t = endTransfer r (phaseEnd d v) := by
  rcases hd : s.desc with _ | d
  · rw [((operandWithoutAccessFaults s x).1 hd).2.2] at h
    cases h
  · rcases hv : readoutData d (beginTransfer s) with _ | ⟨r, v⟩
    · simp [exec, execReadoutByte, readoutPhase, hd, hv] at h
    · rw [exec_readoutByte hd hv] at h
      exact ⟨d, r, v, rfl, hv, (Host.Outcome.next.inj h).symm⟩

/-- Settles O20, by the bus state the byte arrives in: the four columns of the table. -/
theorem busFollowsTable : Obligations.BusFollowsTable := by
  intro s t b h
  cases hbus : s.bus <;> rw [hbus] at h
  case waitingForHeader =>
    have htable : t.bus = busAfterHeader (decodeTarget s.cfg.fecSelect (hdrTarget b)) (hdrRw s.cfg.header b) := by
      rw [← Host.Outcome.next.inj ((exec_decodeHeader s.cfg.header b s).symm.trans h)]
      split
      · rename_i hk
        rw [strobeHeader_bus, hk, busAfterHeader]
      · rw [accessHeader_bus]
    rw [htable]
    rfl
  case waitingForAddress =>
    obtain ⟨d, hd, rfl⟩ := addrByte_next h
    rw [hd, endTransfer_bus, setBus_bus]
    rfl
  case waitingForData =>
    obtain ⟨d, v, hd, hv, rfl⟩ := dataByte_next h
    rw [hd, endTransfer_bus, phaseEnd_bus, dataWrite_eq hv, beginTransfer_bus, hbus]
    rfl
  case readout =>
    obtain ⟨d, r, v, hd, hv, rfl⟩ := readoutByte_next h
    rw [hd, endTransfer_bus, phaseEnd_bus, readoutData_eq hv, beginTransfer_bus, hbus]
    rfl

/-! ### Chip select and frames -/

/-- An event without a response completes with none. -/
theorem completes_of_refresh_noResponse {i : Instr} {s u v : State} {trace : List OutEvent} {n : Nat}
    (h : exec i s = .next (refresh v)) (hv : v = { u with resp := none, out := trace }) (hn : u.syncPulse = n) :
    Completes i s u none trace n := by
  have hresp : (refresh v).resp = none := by rw [refresh_resp, hv]
  have hself : { refresh v with resp := none } = refresh v := by rw [← hresp]
  exact completes_of_refresh (h.trans (congrArg _ hself.symm)) hv hn

/-- What deassertion leaves before the level is written (R181): Idle is forced from Off, and the access ends where the
configuration says so. -/
theorem deassert_eq (s : State) : deassert s = { s with
    mode := if s.mode = .off then .idle else s.mode
    bus := if s.cfg.csDeassertResetsBus then .waitingForHeader else s.bus
    desc := if s.cfg.csDeassertResetsBus then none else s.desc } := by
  have hidle : (if s.mode = .off then setMode .idle s else s) =
      { s with mode := if s.mode = .off then .idle else s.mode } := by
    split
    · exact setMode_of_ne_receiveMode _ _ (by simp)
    · rfl
  unfold deassert
  rw [hidle]
  cases hreset : s.cfg.csDeassertResetsBus <;> simp [hreset, State.setBus]

/-- Settles O30, by the level. -/
theorem chipSelectSetsLevel : Obligations.ChipSelectSetsLevel := by
  intro s
  refine ⟨completes_of_refresh_noResponse (i := .setCs true) rfl rfl rfl,
    completes_of_refresh_noResponse (i := .setCs false) rfl ?deasserted rfl⟩
  case deasserted =>
    simp only [Bool.false_eq_true, if_false, deassert_eq]
    rfl

/-- Settles O31, by whether the device is in ReceiveMode. -/
theorem receiveHoldsOrProcesses : Obligations.ReceiveHoldsOrProcesses := by
  intro s f
  refine ⟨fun hmode => completes_of_refresh_noResponse (i := .receive f) rfl ?held rfl,
    fun p hmode hp => completes_of_refresh_noResponse (i := .receive f) rfl ?processed rfl⟩
  case held => exact if_neg hmode
  case processed =>
    have hresp : p.resp = none := by rw [hp, processFrame_resp]
    rw [with_resp_out_self hresp, hp]
    exact if_pos hmode

/-! ### Resets -/

/-- Settles O36: the reset routine writes every field of the device, and the event has neither response nor trace. -/
theorem powerOnResetRebuildsDevice : Obligations.PowerOnResetRebuildsDevice := fun _ => ⟨_, rfl, rfl, rfl, rfl⟩

/-- The reset routine as a whole state: what is not the device's, and where asked cs and the mark, are all it keeps (R372,
R373). -/
theorem deviceReset_eq (k : Bool) (s : State) : deviceReset k s = { State.reset with
    activePoly := (resetPair s.cfg).poly, activeSeed := (resetPair s.cfg).seed
    cs := k && s.cs, gpio := ⟨false, false, false, false, !(k && s.cs)⟩
    refused := k && s.refused, refusedReason := if k then s.refusedReason else none
    resp := s.resp, out := s.out, input := s.input, draws := s.draws, cfg := s.cfg } := rfl

/-- Settles O37: of the fields that the reset keeps, the second reset keeps what the first one left. -/
theorem resetIsIdempotent : Obligations.ResetIsIdempotent := by
  intro s u k
  refine ⟨?twice, fun hcfg hresp hout hinput hdraws hkept => ?forgets⟩
  case twice => cases k <;> simp [deviceReset_eq]
  case forgets =>
    rw [deviceReset_eq, deviceReset_eq, hcfg, hresp, hout, hinput, hdraws]
    cases k
    case false => rfl
    case true =>
      obtain ⟨hcs, hmark, hreason⟩ := hkept rfl
      rw [hcs, hmark, hreason]

end Sys2Proof.Proofs
end

section
/-!
The receive pipeline (43_frame_receive.md R251 to R276): each drop and an accepted frame as whole states, and the obligations
O32 to O34.
-/

namespace Sys2Proof.Proofs

open Sys2Proof Sys2Proof.Machine Sys2Proof.Spec

/-! ### The filters -/

/-- A frame passes the length step exactly where the step drops nothing (R255 to R260). -/
theorem lengthDrop_eq_none_iff (s : State) (f : List Byte) :
    lengthDrop s (declaredLength s f) = none ↔ PassesLength s f := by
  unfold lengthDrop PassesLength lengthOk
  by_cases hcfg : lengthConfig s = 2
  · cases hpol : s.cfg.infiniteLength <;> simp [hcfg]
  · rw [if_neg hcfg]
    by_cases hle : (declaredLength s f : Int) ≤ lengthLimit s
    · simp only [hle, decide_true, if_true, true_iff]
      exact .inr ⟨hcfg, trivial⟩
    · simp only [hle, hcfg, decide_false, false_and, and_false, or_false, iff_false]
      exact Option.some_ne_none _

/-- Under LENGTH_CONFIG = 2 and the policy Drop every frame is dropped (R258). -/
theorem lengthDrop_of_unsupported {s : State} (hcfg : lengthConfig s = 2) (hpol : s.cfg.infiniteLength = .drop) (n : Nat) :
    lengthDrop s n = some .lengthModeUnsupported := by
  rw [lengthDrop, if_pos hcfg, hpol]

/-- A declared length above the limit is dropped (R256). -/
theorem lengthDrop_of_lt {s : State} (hcfg : lengthConfig s ≠ 2) {n : Nat} (hn : lengthLimit s < (n : Int)) :
    lengthDrop s n = some .badLength := by
  have hbad : lengthOk s n = false := decide_eq_false (not_le.mpr hn)
  rw [lengthDrop, if_neg hcfg, hbad]
  rfl

/-- A frame passes the address step exactly where the step does not reject it (R261). -/
theorem addressRejects_eq_false_iff (s : State) (f : List Byte) : addressRejects s f = false ↔ PassesAddress s f := by
  unfold addressRejects PassesAddress
  cases gMode s <;> simp

/-! ### Drops -/

/-- Settles O32, by the first check that fails: the draws, then the drop of that check. -/
theorem droppedFrameLeavesFifo : Obligations.DroppedFrameLeavesFifo := by
  intro s f
  refine ⟨fun hlen => ?short, fun hlen hcfg hpol => ?unsupported, fun hlen hcfg hlimit => ?length,
    fun hlen hpass haddr => ?address, fun hlen hpass haddr hcrc hflush => ?crc⟩
  case short => exact processFrame_short hlen
  case unsupported =>
    rw [processFrame_badLength (not_le.mpr hlen)
      (lengthDrop_of_unsupported (s := drawSignal s) (n := declaredLength (drawSignal s) f) hcfg hpol)]
    exact dropForcesIdleOnlyIfConfigured (drawSignal s) .lengthModeUnsupported
  case length =>
    rw [processFrame_badLength (not_le.mpr hlen)
      (lengthDrop_of_lt (s := drawSignal s) (n := declaredLength (drawSignal s) f) hcfg hlimit)]
    exact dropForcesIdleOnlyIfConfigured (drawSignal s) .badLength
  case address =>
    rw [processFrame_badAddress (not_le.mpr hlen) ((lengthDrop_eq_none_iff (drawSignal s) f).mpr hpass)
      (Bool.eq_true_of_not_eq_false (mt (addressRejects_eq_false_iff (drawSignal s) f).mp haddr))]
    exact dropForcesIdleOnlyIfConfigured (drawSignal s) .badAddress
  case crc =>
    rw [processFrame_checked (not_le.mpr hlen) ((lengthDrop_eq_none_iff (drawSignal s) f).mpr hpass)
      ((addressRejects_eq_false_iff (drawSignal s) f).mpr haddr), checkCrcStep_dropped (s := drawSignal s) hcrc hflush]
    exact dropForcesIdleOnlyIfConfigured { drawSignal s with lastCrcOk := false } .badCrc

/-! ### Accepted frames -/

/-- What an accepted frame has left when it comes to steps 5 to 9: the draws, the CRC flag, and the log of a mismatch that is
kept (R266, R267). -/
def crcChecked (f : List Byte) (s : State) : State := { drawn s with
  lastCrcOk := crcCheck s f, out := s.out ++ (if crcCheck s f then [] else [.log .crcMismatchKept]) }

/-- An accepted frame goes through steps 5 to 9 (R252 to R267). -/
theorem processFrame_of_accepted {s : State} {f : List Byte} (h : Accepted s f) :
    processFrame f s = acceptFrame f (crcChecked f s) := by
  obtain ⟨hlen, hpass, haddr, hcrc⟩ := h
  rw [processFrame_checked (not_le.mpr hlen) ((lengthDrop_eq_none_iff (drawSignal s) f).mpr hpass)
    ((addressRejects_eq_false_iff (drawSignal s) f).mpr haddr)]
  cases hok : crcCheck s f
  case true =>
    rw [checkCrcStep_ok (s := drawSignal s) hok]
    simp only [crcChecked, hok, if_true, List.append_nil]
    rfl
  case false =>
    have hkeep : crcAutoflush s = false := hcrc.resolve_left (by rw [hok]; simp)
    rw [checkCrcStep_kept (s := drawSignal s) hok hkeep]
    simp only [crcChecked, hok]
    rfl

/-- The ways through the receive pipeline: a short frame, a drop with or without the CRC flag written, an accepted frame
(R251 to R276). -/
theorem processFrame_cases (f : List Byte) (s : State) :
    processFrame f s = (drawn s).log .shortFrame ∨
    (∃ c ok, processFrame f s = dropFrame c { drawn s with lastCrcOk := ok }) ∨
    processFrame f s = acceptFrame f (crcChecked f s) := by
  by_cases hlen : f.length ≤ 2
  · exact .inl (processFrame_short hlen)
  rcases hd : lengthDrop (drawSignal s) (declaredLength (drawSignal s) f) with _ | c
  · cases ha : addressRejects (drawSignal s) f
    · by_cases hcrc : crcCheck s f = true ∨ crcAutoflush s = false
      · exact .inr (.inr (processFrame_of_accepted ⟨not_le.mp hlen, (lengthDrop_eq_none_iff (drawSignal s) f).mp hd,
          (addressRejects_eq_false_iff (drawSignal s) f).mp ha, hcrc⟩))
      · rw [not_or, Bool.not_eq_true, Bool.not_eq_false] at hcrc
        obtain ⟨hbad, hflush⟩ := hcrc
        refine .inr (.inl ⟨.badCrc, false, ?_⟩)
        rw [processFrame_checked hlen hd ha, checkCrcStep_dropped (s := drawSignal s) hbad hflush]
        rfl
    · exact .inr (.inl ⟨.badAddress, s.lastCrcOk, processFrame_badAddress hlen hd ha⟩)
  · exact .inr (.inl ⟨c, s.lastCrcOk, processFrame_badLength hlen hd⟩)

/-- The sixteen bits of a MAC frame control, low byte first: the bits below the eighth are the first byte's (R273). -/
theorem getLsbD_append_of_lt_eight (hi lo : Byte) {i : Nat} (h : i < 8) : (hi ++ lo).getLsbD i = lo.getLsbD i := by
  rw [BitVec.getLsbD_append, if_pos h]

/-- The acknowledge-request bit lies in the first byte of the frame control. -/
theorem macAckRequest_eq (m : List Byte) : macAckRequest m = (frameByte m 0).getLsbD 5 :=
  getLsbD_append_of_lt_eight _ _ (by omega)

/-- The frame type lies in the first byte of the frame control. -/
theorem macFrameType_eq (m : List Byte) : macFrameType m = (frameByte m 0).extractLsb' 0 3 := by
  apply BitVec.eq_of_getLsbD_eq
  intro i hi
  rw [macFrameType, BitVec.getLsbD_extractLsb', BitVec.getLsbD_extractLsb', getLsbD_append_of_lt_eight _ _ (by omega)]

/-- Step 8's condition, as the statements write it (R273). -/
theorem ackWanted_iff (s : State) (f : List Byte) : ackWanted s f = true ↔ AckAsked s f := by
  have hm : mpdu s f = (stripped s f).drop (headerLength s) := rfl
  simp only [ackWanted, AckAsked, hm, macAckRequest_eq, macFrameType_eq, Bool.and_eq_true, decide_eq_true_eq, beq_iff_eq,
    bne_iff_ne, and_assoc]

/-- What an accepted frame offers to the RX FIFO, as the statements write it (R269, R270). -/
theorem rxBody_crcChecked (s : State) (f : List Byte) : rxBody (crcChecked f s) f = offered s f := by
  have hflag : appendStatus (crcChecked f s) = appendStatus s := rfl
  unfold rxBody offered
  rw [hflag]
  cases appendStatus s
  · exact (List.append_nil _).symm
  · rfl

/-- The acknowledgment of a frame, or none. -/
def ackOf (s : State) (f : List Byte) : List OutEvent :=
  if ackWanted s f then [.frameSent (ackFrame s (macSequence (mpdu s f)))] else []

/-- What an accepted frame has left before its pulse: the FIFO, the RX-off mode and the acknowledgment (R269 to R274). -/
def beforePulse (f : List Byte) (s : State) : State := { s with
  rxFifo := (s.rxFifo ++ rxBody s f).take s.cfg.fifoCapacity
  mode := offMode (rxoffMode s)
  out := s.out ++ List.replicate (s.rxFifo.length + (rxBody s f).length - s.cfg.fifoCapacity) (.log .rxOverflow) ++
    ackOf s f }

/-- Steps 5 to 9 as a whole state: the pulse comes last (R275). -/
theorem acceptFrame_eq {s : State} {f : List Byte} (h : s.rxFifo.length ≤ s.cfg.fifoCapacity) :
    acceptFrame f s = pulseSync (beforePulse f s) := by
  rw [acceptFrame, enqueueAll_rx_eq _ _ h, maybeAck_eq]
  rfl

/-- Settles O33: an accepted frame is the state before the pulse, with the levels, the latch and the trace of that pulse. -/
theorem acceptedFrameIsEnqueued : Obligations.AcceptedFrameIsEnqueued := by
  intro s p f hfits haccepted hp
  have hpulse : p = pulseSync (beforePulse f (crcChecked f s)) := by
    rw [hp, processFrame_of_accepted haccepted, acceptFrame_eq (s := crcChecked f s) hfits]
  refine ⟨?refreshed, ackOf s f, ?whole, fun hack => ?asked, fun hack => ?notAsked⟩
  case refreshed =>
    rw [hpulse]
    exact refreshedFrom_congr (refreshedFrom_pulseSync _) rfl rfl
  case whole =>
    have hwhole := pulseSync_eq (beforePulse f (crcChecked f s))
    rw [← hpulse] at hwhole
    refine hwhole.trans ?_
    rw [beforePulse, rxBody_crcChecked]
    rfl
  case asked => exact if_pos ((ackWanted_iff s f).mpr hack)
  case notAsked => exact if_neg (mt (ackWanted_iff s f).mp hack)

/-- A frame that arrives in ReceiveMode is processed, and the lines are refreshed (R250). -/
theorem exec_receive_of_receiveMode {s : State} (hmode : s.mode = .receiveMode) (f : List Byte) :
    exec (.receive f) s = .next (refresh (processFrame f s.beginEvent)) :=
  congrArg (fun p => Host.Outcome.next (refresh p)) (if_pos hmode)

/-- Settles O34: RECEIVE is the accepted frame of O33, from the state an event starts with, and a Refresh. -/
theorem receivedFrameReachesHost : Obligations.ReceivedFrameReachesHost := by
  intro s f hfits hmode haccepted
  obtain ⟨-, ack, hwhole, -, -⟩ := acceptedFrameIsEnqueued s.beginEvent _ f hfits haccepted rfl
  refine ⟨_, exec_receive_of_receiveMode hmode f, ?rx, ?mode, ?crc, ?bank, ?tx, ?pending⟩
  case rx => exact (refresh_rxFifo _).trans (congrArg State.rxFifo hwhole)
  case mode => exact (refresh_mode _).trans (congrArg State.mode hwhole)
  case crc => exact (refresh_lastCrcOk _).trans (congrArg State.lastCrcOk hwhole)
  case bank => rw [refresh_bank, processFrame_bank, beginEvent_bank]
  case tx => rw [refresh_txFifo, processFrame_txFifo, beginEvent_txFifo]
  case pending => rw [refresh_pending, processFrame_pending, beginEvent_pending]

end Sys2Proof.Proofs
end

section
/-!
The frames of a trace (00_scope.md R11 (d)): which operation adds which frame, that each of them passes its own CRC check
(42_crc_engine.md R236), and the obligations O35 and O47.
-/

namespace Sys2Proof.Proofs

open Sys2Proof Sys2Proof.Machine Sys2Proof.Spec

/-! ### Which operation adds which frame -/

/-- A frame was sent exactly where it is one of the trace's frames. -/
theorem mem_framesOf {f : List Byte} {o : List OutEvent} : f ∈ framesOf o ↔ .frameSent f ∈ o := by
  induction o with
  | nil => simp [framesOf]
  | cons e o ih => cases e <;> simp_all [framesOf]

@[simp] theorem framesOf_nil : framesOf [] = [] := rfl
@[simp] theorem framesOf_log (c : DiagCode) : framesOf [.log c] = [] := rfl
@[simp] theorem framesOf_frameSent (f : List Byte) : framesOf [.frameSent f] = [f] := rfl

@[simp] theorem framesOf_append (o o' : List OutEvent) : framesOf (o ++ o') = framesOf o ++ framesOf o' :=
  List.filterMap_append

/-- A run of logs holds no frame. -/
@[simp] theorem framesOf_replicate_log (n : Nat) (c : DiagCode) : framesOf (List.replicate n (.log c)) = [] := by
  induction n with
  | zero => rfl
  | succ n ih => exact ih

/-- The logs of the pre-checks hold no frame (R150). -/
@[simp] theorem framesOf_preLogs (s : State) : framesOf (preLogs s) = [] := by
  rw [preLogs, framesOf_append]
  split <;> split <;> rfl

/-- A Refresh sends no frame (R310). -/
@[simp] theorem framesOf_lineTrace (s : State) (n : Nat) : framesOf (lineTrace s n) = [] := by
  have hline : ∀ i, framesOf (if lineRole s i = .unsupported then [.log .unsupportedGpioRole]
      else if lineRole s i = .pktSync ∧ n > 0 then [.blink i] else []) = [] := by
    intro i
    split_ifs <;> rfl
  simp only [lineTrace, List.flatMap_cons, List.flatMap_nil, framesOf_append, hline, List.append_nil]

@[simp] theorem framesOf_refresh (s : State) : framesOf (refresh s).out = framesOf s.out := by
  rw [refresh_out_eq_lineTrace, framesOf_append, framesOf_lineTrace, List.append_nil]

@[simp] theorem framesOf_pulseSync (s : State) : framesOf (pulseSync s).out = framesOf s.out :=
  framesOf_refresh _

@[simp] theorem framesOf_enqueue (q : Fifo) (v : Byte) (s : State) : framesOf (enqueue q v s).out = framesOf s.out := by
  unfold enqueue
  split
  · simp
  · cases q <;> rfl

/-- A run of bytes into a FIFO sends no frame (R271). -/
@[simp] theorem framesOf_enqueueAll (q : Fifo) :
    ∀ (l : List Byte) (s : State), framesOf (enqueueAll q l s).out = framesOf s.out
  | [], _ => rfl
  | v :: l, s => by rw [enqueueAll, framesOf_enqueueAll q l, framesOf_enqueue]

@[simp] theorem framesOf_dropFrame (c : DiagCode) (s : State) : framesOf (dropFrame c s).out = framesOf s.out := by
  rw [dropForcesIdleOnlyIfConfigured]
  simp

/-- The acknowledgment of a frame is read from the configuration, the bank and the pair alone. -/
theorem ackOf_congr {s t : State} (hc : s.cfg = t.cfg) (hb : s.bank = t.bank) (hp : s.activePoly = t.activePoly)
    (hs : s.activeSeed = t.activeSeed) (f : List Byte) : ackOf s f = ackOf t f := by
  have hm : mpdu s f = mpdu t f := by
    simp only [mpdu, stripLength, headerLength, fcsLen_congr hc hb, gMode_congr hc hb]
  have hw : ackWanted s f = ackWanted t f := by
    simp only [ackWanted, hm, rxoffMode_congr hc hb, termOnBadPacket_congr hc hb]
  have hf : ∀ seq, ackFrame s seq = ackFrame t seq := fun seq => by
    simp only [ackFrame, gMode_congr hc hb, crcEnabled_congr hc hb, hc, hp, hs]
  rw [ackOf, ackOf, hm, hw, hf]

/-- An accepted frame sends its acknowledgment, where it has one, and nothing else (R269 to R275). -/
theorem framesOf_acceptFrame (f : List Byte) (s : State) :
    framesOf (acceptFrame f s).out = framesOf s.out ++ framesOf (ackOf s f) := by
  have hmaybe : ∀ t : State, (maybeAck f t).out = t.out ++ ackOf t f := fun t => by rw [maybeAck_eq]; rfl
  rw [acceptFrame, framesOf_pulseSync, hmaybe, framesOf_append, writeMode_out, framesOf_enqueueAll,
    ackOf_congr (t := s) (by simp) (by simp) (by simp) (by simp)]

/-! ### The acknowledgment of a legacy frame -/

/-- The third byte of a MAC header is the frame's fourth, after a legacy PHY header (R253, R273). -/
theorem frameByte_drop_take {f : List Byte} {n : Nat} (h : 3 ≤ ((f.take n).drop 1).length) :
    frameByte ((f.take n).drop 1) 2 = frameByte f 3 := by
  have hn : 3 < n ∧ 3 < f.length := by
    simp only [List.length_drop, List.length_take] at h
    omega
  simp [frameByte, List.getD_eq_getElem?_getD, hn]

/-- The default acknowledgment in legacy mode with the CRC enabled (R274). -/
theorem ackFrame_legacy {s : State} (hack : s.cfg.ack = defaultConfig.ack) (hg : gMode s = false)
    (hcrc : crcEnabled s = true) (seq : Byte) : ackFrame s seq = [0x05, 0x02, 0x00, seq] ++
      crc16Bytes s.cfg (crc16 s.cfg s.activePoly s.activeSeed [0x02, 0x00, seq]) := by
  simp only [ackFrame, hack, hg, hcrc]
  rfl

/-- Settles O35: the one frame is the acknowledgment, under the configuration and the pair of the state before. -/
theorem ackCarriesSequenceNumber : Obligations.AckCarriesSequenceNumber := by
  intro s f hmode haccepted hasked hack hg hcrc
  have hasked' : AckAsked (crcChecked f s.beginEvent) f := hasked
  obtain ⟨hmac, hrxoff, -⟩ := hasked
  refine ⟨_, exec_receive_of_receiveMode hmode f, ?frames, ?mode⟩
  all_goals rw [processFrame_of_accepted (s := s.beginEvent) haccepted]
  case frames =>
    have hh : headerLength s = 1 := by rw [headerLength, hg]; rfl
    have hseq : macSequence (mpdu (crcChecked f s.beginEvent) f) = frameByte f 3 := by
      rw [hh] at hmac
      have hmpdu : mpdu (crcChecked f s.beginEvent) f = (stripped s f).drop (headerLength s) := rfl
      rw [hmpdu, hh]
      exact frameByte_drop_take hmac
    have hnone : framesOf (crcChecked f s.beginEvent).out = [] := by
      simp only [crcChecked, framesOf_append]
      split <;> rfl
    have hone : ackOf (crcChecked f s.beginEvent) f =
        [.frameSent (ackFrame (crcChecked f s.beginEvent) (frameByte f 3))] := by
      rw [ackOf, if_pos ((ackWanted_iff _ f).mpr hasked'), hseq]
    rw [framesOf_refresh, framesOf_acceptFrame, hnone, hone,
      ackFrame_legacy (s := crcChecked f s.beginEvent) hack hg hcrc]
    rfl
  case mode =>
    have hoff : rxoffMode (crcChecked f s.beginEvent) = 2 := hrxoff
    rw [refresh_mode, acceptFrame_mode, hoff]
    rfl

/-! ### A frame with its FCS passes the check -/

/-- The length of an FCS is 0, 2 or 4 (R235). -/
theorem fcsLen_cases (s : State) (h0 : Byte) : fcsLen s h0 = 0 ∨ fcsLen s h0 = 2 ∨ fcsLen s h0 = 4 := by
  unfold fcsLen
  split_ifs <;> simp

theorem length_crc16Bytes (c : Config) (v : Word16) : (crc16Bytes c v).length = 2 := by
  unfold crc16Bytes
  dsimp only
  split <;> rfl

theorem length_crc32Bytes (c : Config) (v : Word32) : (crc32Bytes c v).length = 4 := by
  unfold crc32Bytes
  dsimp only
  split <;> rfl

/-- An FCS has the length it is asked for (R231, R233). -/
theorem length_fcsBytes (s : State) (h0 : Byte) (data : List Byte) :
    (fcsBytes s (fcsLen s h0) data).length = fcsLen s h0 := by
  rcases fcsLen_cases s h0 with h | h | h
  · rw [h]; rfl
  · rw [h]; exact length_crc16Bytes s.cfg _
  · rw [h]; exact length_crc32Bytes s.cfg _

/-- A first byte, any bytes, and the FCS over these pass the check (R236). -/
theorem crcCheck_cons_append_fcs (s : State) (h0 : Byte) (rest : List Byte) :
    crcCheck s ((h0 :: rest) ++ fcsBytes s (fcsLen s h0) rest) = true := by
  have hlen := length_fcsBytes s h0 rest
  have hfirst : frameByte ((h0 :: rest) ++ fcsBytes s (fcsLen s h0) rest) 0 = h0 := rfl
  have htotal : ((h0 :: rest) ++ fcsBytes s (fcsLen s h0) rest).length = (h0 :: rest).length + fcsLen s h0 := by
    rw [List.length_append, hlen]
  rw [crcCheck, hfirst, htotal, Nat.add_sub_cancel, List.drop_left, List.take_left]
  simp

/-- The FCS of an acknowledgment is the one the check asks for, where its header asks for 2 bytes (R235, R274). -/
theorem fcsBytes_of_fcsTypeBit {s : State} {h0 : Byte} (h : gMode s = true → fcsTypeBit s h0 = true) (rest : List Byte) :
    fcsBytes s (fcsLen s h0) rest =
      if crcEnabled s then crc16Bytes s.cfg (crc16 s.cfg s.activePoly s.activeSeed rest) else [] := by
  have hlen : fcsLen s h0 = if crcEnabled s then 2 else 0 := by
    unfold fcsLen
    cases crcEnabled s
    · rfl
    · cases hg : gMode s
      · rfl
      · rw [h hg]; rfl
  rw [hlen]
  cases crcEnabled s <;> rfl

/-- The acknowledgment of the default format passes the check: its g-mode header asks for a 2-byte FCS (R274, D32). -/
theorem crcCheck_ackFrame {s : State} (hack : s.cfg.ack = defaultConfig.ack) (hphr : s.cfg.phr = defaultConfig.phr)
    (seq : Byte) : crcCheck s (ackFrame s seq) = true := by
  have hbit : fcsTypeBit s 0x10 = true := by
    rw [fcsTypeBit, hphr]
    decide
  cases hg : gMode s
  case false =>
    have hframe : ackFrame s seq = (0x05 :: [0x02, 0x00, seq]) ++ fcsBytes s (fcsLen s 0x05) [0x02, 0x00, seq] := by
      rw [fcsBytes_of_fcsTypeBit (by rw [hg]; simp)]
      simp only [ackFrame, hack, hg]
      rfl
    rw [hframe, crcCheck_cons_append_fcs]
  case true =>
    have hframe : ackFrame s seq =
        (0x10 :: [0x05, 0x02, 0x00, seq]) ++ fcsBytes s (fcsLen s 0x10) [0x05, 0x02, 0x00, seq] := by
      rw [fcsBytes_of_fcsTypeBit fun _ => hbit]
      simp only [ackFrame, hack, hg]
      rfl
    rw [hframe, crcCheck_cons_append_fcs]

/-! ### Every frame of a trace passes the check -/

/-- Every frame of the trace passes the check of the state. -/
def FramesPass (s : State) : Prop := ∀ f ∈ framesOf s.out, crcCheck s f = true

/-- An operation that leaves configuration, bank and pair, and sends only frames that pass, keeps the property. -/
theorem framesPass_of_sent {s t : State} {sent : List (List Byte)} (h : FramesPass s) (hc : t.cfg = s.cfg)
    (hb : t.bank = s.bank) (hp : t.activePoly = s.activePoly) (hs : t.activeSeed = s.activeSeed)
    (hout : framesOf t.out = framesOf s.out ++ sent) (hsent : ∀ f ∈ sent, crcCheck s f = true) : FramesPass t := by
  intro f hf
  rw [crcCheck_congr hc hb hp hs]
  rw [hout] at hf
  rcases List.mem_append.mp hf with hf | hf
  · exact h f hf
  · exact hsent f hf

/-- An operation that leaves configuration, bank and pair, and sends nothing, keeps the property. -/
theorem framesPass_of_silent {s t : State} (h : FramesPass s) (hc : t.cfg = s.cfg)
    (hb : t.bank = s.bank) (hp : t.activePoly = s.activePoly) (hs : t.activeSeed = s.activeSeed)
    (hout : framesOf t.out = framesOf s.out) : FramesPass t :=
  framesPass_of_sent (sent := []) h hc hb hp hs (by rw [hout, List.append_nil]) (by simp)

/-- A trace without frames has the property in every state. -/
theorem framesPass_of_nil {s : State} (h : framesOf s.out = []) : FramesPass s := by
  intro f hf
  rw [h] at hf
  cases hf

theorem framesPass_refresh {s : State} (h : FramesPass s) : FramesPass (refresh s) :=
  framesPass_of_silent h (by simp) (by simp) (by simp) (by simp) (framesOf_refresh s)

theorem framesPass_pulseSync {s : State} (h : FramesPass s) : FramesPass (pulseSync s) :=
  framesPass_of_silent h (by simp) (by simp) (by simp) (by simp) (framesOf_pulseSync s)

theorem framesPass_dropFrame {s : State} (h : FramesPass s) (c : DiagCode) : FramesPass (dropFrame c s) :=
  framesPass_of_silent h (by simp) (by simp) (by simp) (by simp) (framesOf_dropFrame c s)

/-- The layouts under which the statement about sent frames is made (D20, D32). -/
def DefaultLayouts (c : Config) : Prop := c.ack = defaultConfig.ack ∧ c.phr = defaultConfig.phr

theorem framesPass_acceptFrame {s : State} (h : FramesPass s) (hl : DefaultLayouts s.cfg) (f : List Byte) :
    FramesPass (acceptFrame f s) := by
  refine framesPass_of_sent h (by simp) (by simp) (by simp) (by simp) (framesOf_acceptFrame f s) fun g hg => ?_
  unfold ackOf at hg
  split at hg
  · rw [List.mem_singleton.mp hg]
    exact crcCheck_ackFrame hl.1 hl.2 _
  · cases hg

/-- The receive pipeline sends at most an acknowledgment, which passes (R251 to R276). -/
theorem framesPass_processFrame {s : State} (h : FramesPass s) (hl : DefaultLayouts s.cfg) (f : List Byte) :
    FramesPass (processFrame f s) := by
  obtain hshort | ⟨c, ok, hdrop⟩ | haccept := processFrame_cases f s
  · rw [hshort]
    exact framesPass_of_silent h rfl rfl rfl rfl (by simp [drawn])
  · rw [hdrop]
    have hflag : FramesPass { drawn s with lastCrcOk := ok } := framesPass_of_silent h rfl rfl rfl rfl rfl
    exact framesPass_dropFrame hflag c
  · rw [haccept]
    have hchecked : FramesPass (crcChecked f s) := by
      refine framesPass_of_silent h rfl rfl rfl rfl ?_
      simp only [crcChecked, framesOf_append]
      split <;> simp
    exact framesPass_acceptFrame hchecked hl f

/-- `SetMode` sends at most the acknowledgment of a pending frame (R25). -/
theorem framesPass_setMode {s : State} (h : FramesPass s) (hl : DefaultLayouts s.cfg) (m : ChipMode) :
    FramesPass (setMode m s) := by
  have hwrite : FramesPass (s.writeMode m) := framesPass_of_silent h rfl rfl rfl rfl rfl
  have hempty : FramesPass { s.writeMode m with pending := none } := framesPass_of_silent h rfl rfl rfl rfl rfl
  unfold setMode
  dsimp only
  split
  · split
    · exact framesPass_processFrame hempty hl _
    · exact hwrite
  · exact hwrite

/-- A transmit sends one frame, which passes, or aborts; then the TX-off mode (R290 to R297). -/
theorem framesPass_runTx {s : State} (h : FramesPass s) (hl : DefaultLayouts s.cfg) : FramesPass (runTx s) := by
  have hpop : framesOf (txUnderflows s) = [] := framesOf_replicate_log _ _
  by_cases habort : TxAborts s
  · rw [runTx_of_txAborts habort]
    exact framesPass_of_silent h rfl rfl rfl rfl (by simp [hpop])
  · rw [runTx_of_not_txAborts habort]
    have hsent : FramesPass { s with txFifo := [], out := s.out ++ txUnderflows s ++ [.frameSent (txSent s)] } := by
      refine framesPass_of_sent (sent := [txSent s]) h rfl rfl rfl rfl (by simp [hpop]) fun g hg => ?_
      rw [List.mem_singleton.mp hg]
      exact crcCheck_cons_append_fcs s _ _
    exact framesPass_pulseSync (framesPass_setMode hsent hl _)

/-- A command sends a frame only by a transmit or by processing a pending frame; a reset sends none (R200). -/
theorem framesPass_execStrobe {s : State} (h : framesOf s.out = []) (hl : DefaultLayouts s.cfg) (t : Target) :
    FramesPass (execStrobe t s) := by
  have hnone : ∀ u : State, u.out = s.out → FramesPass u := fun u hu => framesPass_of_nil (by rw [hu, h])
  rw [execStrobe_eq]
  cases strobeOf s.cfg t
  case enableRx => exact framesPass_setMode (hnone s rfl) hl _
  case enableTx => exact framesPass_runTx (hnone (s.writeMode .transmitMode) rfl) hl
  case unknown => exact framesPass_of_nil (by simp [h])
  case flushRx => exact hnone _ rfl
  case flushTx => exact hnone _ rfl
  all_goals exact hnone _ rfl

theorem framesPass_setBus {s : State} (h : FramesPass s) (b : BusState) (d : Option AccessDescriptor) :
    FramesPass (s.setBus b d) :=
  framesPass_of_silent h rfl rfl rfl rfl rfl

theorem framesPass_respond {s : State} (h : FramesPass s) (r : Byte) : FramesPass (s.respond r) :=
  framesPass_of_silent h rfl rfl rfl rfl rfl

/-- The end of a transfer sends no frame (R151). -/
theorem framesPass_endTransfer {s : State} (h : FramesPass s) (r : Byte) : FramesPass (endTransfer r s) :=
  framesPass_respond (framesPass_refresh h) r

/-- The start of a transfer leaves no frame in the trace (R150, R151). -/
theorem framesOf_beginTransfer (s : State) : framesOf (beginTransfer s).out = [] := by
  rw [beginTransfer_eq_preLogs]
  exact framesOf_preLogs s

/-- A data byte sends no frame (R170 to R174). -/
theorem framesOf_dataWrite {d : AccessDescriptor} {b : Byte} {s v : State} (h : dataWrite d b s = some v) :
    framesOf v.out = framesOf s.out := by
  have hreg : ∀ sp, framesOf (regWrite sp d.addr b s).out = framesOf s.out := by
    intro sp
    cases hkind : cellKind s.cfg sp d.addr
    · rw [regWrite_of_stored hkind]; rfl
    · rw [regWrite_of_computed hkind]; simp
    · rw [regWrite_of_unbacked hkind]; simp
  have hdirect : framesOf (dataWriteDirect s).out = framesOf s.out := by
    unfold dataWriteDirect
    split <;> simp
  obtain ⟨sp, -, rfl⟩ | ⟨-, rfl⟩ | ⟨-, rfl⟩ := dataWrite_cases h
  · exact hreg sp
  · exact framesOf_enqueue _ _ _
  · exact hdirect

/-- A read-out byte sends no frame (R175 to R179). -/
theorem framesOf_readoutData {d : AccessDescriptor} {r : Byte} {s v : State} (h : readoutData d s = some (r, v)) :
    framesOf v.out = framesOf s.out := by
  have hreg : ∀ sp, framesOf (regRead sp d.addr s).2.out = framesOf s.out := by
    intro sp
    unfold regRead
    split <;> simp
  have hdirect : framesOf (readoutDirect d s).2.out = framesOf s.out := by
    unfold readoutDirect drawByte
    split <;> simp
  have hfifo : framesOf (dequeue .rx s).2.out = framesOf s.out := by
    unfold dequeue
    split <;> simp [State.setFifo]
  obtain ⟨sp, -, rfl⟩ | ⟨-, rfl⟩ | ⟨-, rfl⟩ := readoutData_cases h
  · exact hreg sp
  · exact hfifo
  · exact hdirect

/-- Settles O47, by the ways an instruction answers a next state: only a strobe and a frame from the medium send anything. -/
theorem everyFrameSentPassesCrcCheck : Obligations.EveryFrameSentPassesCrcCheck := by
  intro i s t f hack hphr h hf
  have hl : DefaultLayouts s.cfg := ⟨hack, hphr⟩
  suffices FramesPass t from this f (mem_framesOf.mpr hf)
  have hbegin := framesOf_beginTransfer s
  have hevent : FramesPass s.beginEvent := framesPass_of_nil rfl
  obtain ⟨a, rd, b, -, -, -, -, rfl⟩ | ⟨c, rw, b, -, -, rfl⟩ | ⟨x, d, -, -, rfl⟩ | ⟨b, d, v, -, -, hv, rfl⟩ |
    ⟨b, d, r, v, -, -, hv, rfl⟩ | ⟨l, -, rfl⟩ | ⟨g, -, rfl⟩ | ⟨-, rfl⟩ := exec_next h
  · -- a header that opens an access
    exact framesPass_endTransfer (framesPass_setBus (framesPass_of_nil hbegin) _ _) _
  · -- a strobe
    rw [strobeHeader_eq]
    have hcommand := framesPass_execStrobe hbegin (by rw [beginTransfer_cfg]; exact hl) c
    exact framesPass_endTransfer (framesPass_setBus hcommand _ _) _
  · -- an address byte
    exact framesPass_endTransfer (framesPass_setBus (framesPass_of_nil hbegin) _ _) _
  · -- a data byte
    rw [phaseEnd_eq]
    exact framesPass_endTransfer (framesPass_setBus (framesPass_of_nil ((framesOf_dataWrite hv).trans hbegin)) _ _) _
  · -- a read-out byte
    rw [phaseEnd_eq]
    exact framesPass_endTransfer (framesPass_setBus (framesPass_of_nil ((framesOf_readoutData hv).trans hbegin)) _ _) _
  · -- chip select
    refine framesPass_refresh (framesPass_of_nil ?_)
    cases l
    · simp only [Bool.false_eq_true, if_false, deassert_eq]
      rfl
    · rfl
  · -- a frame from the medium
    refine framesPass_refresh ?_
    unfold receiveFrame
    split
    · exact framesPass_processFrame hevent hl g
    · exact framesPass_of_nil rfl
  · -- power-on reset
    exact framesPass_of_nil rfl

end Sys2Proof.Proofs
end

section
/-!
Rules over every instruction (10_state.md R20 to R49, 45_gpio_mux.md R313 to R324): who writes which field, read off the ways
an instruction answers a next state. The obligations O38 to O43, O45, O46.
-/

namespace Sys2Proof.Proofs

open Sys2Proof Sys2Proof.Machine Sys2Proof.Spec

/-! ### What a strobe, a frame and a level leave -/

/-- A command that is no reset leaves the bank and the pair; a reset sets them to their reset values. -/
theorem execStrobe_bank_pair (c : Target) (s : State) :
    (strobeOf s.cfg c = .reset ∧ (execStrobe c s).bank = []) ∨
    ((execStrobe c s).bank = s.bank ∧ (execStrobe c s).activePoly = s.activePoly ∧
      (execStrobe c s).activeSeed = s.activeSeed) := by
  rw [execStrobe_eq]
  cases hcmd : strobeOf s.cfg c
  case reset => exact .inl ⟨rfl, rfl⟩
  all_goals exact .inr (by simp)

/-- No command writes the configuration, the events to come, cs or the mark. -/
theorem execStrobe_frame (c : Target) (s : State) : (execStrobe c s).cfg = s.cfg ∧ (execStrobe c s).input = s.input ∧
    (execStrobe c s).cs = s.cs ∧ (execStrobe c s).refused = s.refused ∧
    (execStrobe c s).refusedReason = s.refusedReason := by
  rw [execStrobe_eq]
  cases strobeOf s.cfg c
  case reset => simp [deviceReset_eq]
  all_goals simp

@[simp] theorem execStrobe_cfg (c : Target) (s : State) : (execStrobe c s).cfg = s.cfg := (execStrobe_frame c s).1
@[simp] theorem execStrobe_input (c : Target) (s : State) : (execStrobe c s).input = s.input := (execStrobe_frame c s).2.1
@[simp] theorem execStrobe_cs (c : Target) (s : State) : (execStrobe c s).cs = s.cs := (execStrobe_frame c s).2.2.1
@[simp] theorem execStrobe_refused (c : Target) (s : State) : (execStrobe c s).refused = s.refused :=
  (execStrobe_frame c s).2.2.2.1
@[simp] theorem execStrobe_refusedReason (c : Target) (s : State) :
    (execStrobe c s).refusedReason = s.refusedReason := (execStrobe_frame c s).2.2.2.2

/-- The pending slot after `SetMode`: kept, or emptied by an entry into ReceiveMode (R25). -/
theorem setMode_pending (m : ChipMode) (s : State) :
    (setMode m s).pending = s.pending ∨ (setMode m s).pending = none := by
  unfold setMode
  dsimp only
  split
  · split
    · exact .inr (by simp)
    · exact .inl rfl
  · exact .inl rfl

/-- The pending slot after a transmit: that of its TX-off mode (R297). -/
theorem runTx_pending (s : State) : (runTx s).pending = s.pending ∨ (runTx s).pending = none := by
  by_cases habort : TxAborts s
  · rw [runTx_of_txAborts habort]
    exact .inl rfl
  · rw [runTx_of_not_txAborts habort, pulseSync_pending]
    exact setMode_pending _ { s with txFifo := [], out := s.out ++ txUnderflows s ++ [.frameSent (txSent s)] }

/-- A command keeps the pending slot or empties it (R42). -/
theorem execStrobe_pending (c : Target) (s : State) :
    (execStrobe c s).pending = s.pending ∨ (execStrobe c s).pending = none := by
  rw [execStrobe_eq]
  cases strobeOf s.cfg c
  case reset => exact .inr rfl
  case enableRx => exact setMode_pending _ s
  case enableTx => exact runTx_pending (s.writeMode .transmitMode)
  all_goals exact .inl (by simp)

/-- A level as one Refresh: cs is written, and a deassertion forces Idle from Off and ends the access (R181). -/
theorem setChipSelect_eq (l : Bool) (s : State) : setChipSelect l s = refresh { s with
    resp := none, out := [], cs := l
    mode := if l = false ∧ s.mode = .off then .idle else s.mode
    bus := if l = false ∧ s.cfg.csDeassertResetsBus then .waitingForHeader else s.bus
    desc := if l = false ∧ s.cfg.csDeassertResetsBus then none else s.desc } := by
  cases l
  · simp only [setChipSelect, Bool.false_eq_true, if_false, deassert_eq, true_and]
    rfl
  · rfl

/-! ### The configuration, the bank and the pair -/

/-- Settles O38: no operation of any instruction writes the two fields. -/
theorem configurationNeverChanges : Obligations.ConfigurationNeverChanges := by
  intro i s t h
  obtain ⟨a, rd, b, -, -, -, -, rfl⟩ | ⟨c, rw, b, -, -, rfl⟩ | ⟨x, d, -, -, rfl⟩ | ⟨b, d, v, -, -, hv, rfl⟩ |
    ⟨b, d, r, v, -, -, hv, rfl⟩ | ⟨l, -, rfl⟩ | ⟨f, -, rfl⟩ | ⟨-, rfl⟩ := exec_next h
  · simp [accessHeader]
  · simp [strobeHeader_eq]
  · simp
  · rw [phaseEnd_eq, dataWrite_eq hv]
    simp
  · rw [phaseEnd_eq, readoutData_eq hv]
    simp
  · simp [setChipSelect_eq]
  · simp
  · exact ⟨rfl, rfl⟩

/-- A direct data byte writes neither the bank nor the pair (R174). -/
theorem dataWriteDirect_frame (s : State) : (dataWriteDirect s).bank = s.bank ∧
    (dataWriteDirect s).activePoly = s.activePoly ∧ (dataWriteDirect s).activeSeed = s.activeSeed := by
  unfold dataWriteDirect
  split <;> exact ⟨rfl, rfl, rfl⟩

/-- A data phase writes the bank only for a register kind, and then the one cell of the descriptor (R171 to R174). -/
theorem dataWrite_bank {d : AccessDescriptor} {b : Byte} {s v : State} (h : dataWrite d b s = some v) :
    v.bank = s.bank ∨ (spaceOf d.kind ≠ none ∧
      v.bank = Memory.write s.cfg (cellKey ((spaceOf d.kind).getD .std) d.addr) b s.bank) := by
  obtain ⟨sp, hsp, rfl⟩ | ⟨-, rfl⟩ | ⟨-, rfl⟩ := dataWrite_cases h
  · rw [regWrite_bank, hsp]
    split
    · exact .inr ⟨by simp, rfl⟩
    · exact .inl rfl
  · exact .inl (by simp)
  · exact .inl (dataWriteDirect_frame s).1

/-- Settles O39: a data byte of a register access and a reset are the only ways that write the bank. -/
theorem bankWrittenOnlyByDataPhase : Obligations.BankWrittenOnlyByDataPhase := by
  intro i s t h hbank
  obtain ⟨a, rd, b, -, -, -, -, rfl⟩ | ⟨c, rw, b, -, hs, rfl⟩ | ⟨x, d, -, -, rfl⟩ | ⟨b, d, v, hi, hd, hv, rfl⟩ |
    ⟨b, d, r, v, -, -, hv, rfl⟩ | ⟨l, -, rfl⟩ | ⟨f, -, rfl⟩ | ⟨hi, rfl⟩ := exec_next h
  · exact absurd (by simp [accessHeader]) hbank
  · rw [strobeHeader_eq, endTransfer_bank, setBus_bank] at hbank ⊢
    rcases execStrobe_bank_pair c (beginTransfer s) with ⟨hreset, hempty⟩ | ⟨hsame, -⟩
    · rw [beginTransfer_cfg] at hreset
      exact .inr (.inl ⟨⟨c, rw, b, hs, hreset⟩, hempty⟩)
    · exact absurd (hsame.trans (beginTransfer_bank s)) hbank
  · exact absurd (by simp) hbank
  · rw [endTransfer_bank, phaseEnd_eq, setBus_bank] at hbank ⊢
    rcases dataWrite_bank hv with hsame | ⟨hsp, hwritten⟩
    · exact absurd (hsame.trans (beginTransfer_bank s)) hbank
    · rw [beginTransfer_cfg, beginTransfer_bank] at hwritten
      exact .inl ⟨b, d, hi, hd, hsp, hwritten⟩
  · refine absurd ?_ hbank
    rw [phaseEnd_eq, readoutData_eq hv]
    simp
  · exact absurd (by simp [setChipSelect_eq]) hbank
  · exact absurd (by simp) hbank
  · exact .inr (.inr ⟨hi, rfl⟩)

/-- A data phase writes the pair only for a register kind, at the place of CRC_CFG (R84). -/
theorem dataWrite_pair {d : AccessDescriptor} {b : Byte} {s v : State} (h : dataWrite d b s = some v) :
    (v.activePoly = s.activePoly ∧ v.activeSeed = s.activeSeed) ∨
    (spaceOf d.kind = some s.cfg.regMap.crcCfg.space ∧ d.addr = s.cfg.regMap.crcCfg.addr) := by
  obtain ⟨sp, hsp, rfl⟩ | ⟨-, rfl⟩ | ⟨-, rfl⟩ := dataWrite_cases h
  · cases hkind : cellKind s.cfg sp d.addr
    · rw [regWrite_of_stored hkind, pairAfterWrite]
      split
      · rename_i hin
        exact .inr ⟨by rw [hsp, hin.1], hin.2.symm⟩
      · exact .inl ⟨rfl, rfl⟩
    · rw [regWrite_of_computed hkind]
      exact .inl ⟨rfl, rfl⟩
    · rw [regWrite_of_unbacked hkind]
      exact .inl ⟨rfl, rfl⟩
  · exact .inl (by simp)
  · exact .inl (dataWriteDirect_frame s).2

/-- Settles O40: a data byte at the place of CRC_CFG and a reset are the only ways that write the pair. -/
theorem crcPairWrittenOnlyByCallback : Obligations.CrcPairWrittenOnlyByCallback := by
  intro i s t h hpair
  have unchanged : t.activePoly = s.activePoly → t.activeSeed = s.activeSeed → False := fun hp hs =>
    hpair.elim (fun hne => hne hp) (fun hne => hne hs)
  obtain ⟨a, rd, b, -, -, -, -, rfl⟩ | ⟨c, rw, b, -, hs, rfl⟩ | ⟨x, d, -, -, rfl⟩ | ⟨b, d, v, hi, hd, hv, rfl⟩ |
    ⟨b, d, r, v, -, -, hv, rfl⟩ | ⟨l, -, rfl⟩ | ⟨f, -, rfl⟩ | ⟨hi, rfl⟩ := exec_next h
  · exact (unchanged (by simp [accessHeader]) (by simp [accessHeader])).elim
  · rw [strobeHeader_eq] at unchanged
    rcases execStrobe_bank_pair c (beginTransfer s) with ⟨hreset, -⟩ | ⟨-, hp, hseed⟩
    · rw [beginTransfer_cfg] at hreset
      exact .inr (.inl ⟨c, rw, b, hs, hreset⟩)
    · exact (unchanged (by simp [hp]) (by simp [hseed])).elim
  · exact (unchanged (by simp) (by simp)).elim
  · rw [phaseEnd_eq] at unchanged
    rcases dataWrite_pair hv with ⟨hp, hseed⟩ | ⟨hsp, haddr⟩
    · exact (unchanged (by simp [hp]) (by simp [hseed])).elim
    · rw [beginTransfer_cfg] at hsp haddr
      exact .inl ⟨b, d, hi, hd, hsp, haddr⟩
  · rw [phaseEnd_eq, readoutData_eq hv] at unchanged
    exact (unchanged (by simp) (by simp)).elim
  · exact (unchanged (by simp [setChipSelect_eq]) (by simp [setChipSelect_eq])).elim
  · exact (unchanged (by simp) (by simp)).elim
  · exact .inr (.inr hi)

end Sys2Proof.Proofs
end

section
/-!
Who writes the mode, the mark, cs and the pending slot, what the lines show, and how a trace begins (10_state.md R24, R42, R44,
R48, 45_gpio_mux.md R313 to R324, 40_bus_access.md R150). The obligations O41 to O43, O45, O46.
-/

namespace Sys2Proof.Proofs

open Sys2Proof Sys2Proof.Machine Sys2Proof.Spec

/-! ### The mode -/

/-- The five modes that the device enters (R24). -/
def Entered (m : ChipMode) : Prop :=
  m = .off ∨ m = .idle ∨ m = .receiveMode ∨ m = .transmitMode ∨ m = .fastTxReady

/-- The other four are never entered. -/
theorem Entered.ne_unentered {m : ChipMode} (h : Entered m) :
    m ≠ .calibrate ∧ m ≠ .settling ∧ m ≠ .rxFifoError ∧ m ≠ .txFifoError := by
  rcases h with rfl | rfl | rfl | rfl | rfl <;> simp

theorem entered_offMode (v : BitVec 2) : Entered (offMode v) := by
  unfold offMode
  split_ifs <;> simp [Entered]

/-- The receive pipeline keeps the mode or enters one of the five (R251 to R276). -/
theorem processFrame_mode_cases (f : List Byte) (s : State) :
    (processFrame f s).mode = s.mode ∨ Entered (processFrame f s).mode := by
  obtain hshort | ⟨c, ok, hdrop⟩ | haccept := processFrame_cases f s
  · rw [hshort]
    exact .inl rfl
  · rw [hdrop, dropFrame_mode]
    split
    · exact .inr (by simp [Entered])
    · exact .inl rfl
  · rw [haccept, acceptFrame_mode]
    exact .inr (entered_offMode _)

/-- `SetMode` of one of the five modes ends in one of the five, a pending frame processed or not (R25). -/
theorem entered_setMode {m : ChipMode} (h : Entered m) (s : State) : Entered (setMode m s).mode := by
  unfold setMode
  dsimp only
  split
  · split
    · rename_i f _
      rcases processFrame_mode_cases f { s.writeMode m with pending := none } with hsame | hentered
      · rw [hsame]; exact h
      · exact hentered
    · exact h
  · exact h

/-- A transmit ends in TransmitMode, where it was begun, or in its TX-off mode (R292, R297). -/
theorem entered_runTx {s : State} (h : Entered s.mode) : Entered (runTx s).mode := by
  by_cases habort : TxAborts s
  · rw [runTx_of_txAborts habort]
    exact h
  · rw [runTx_of_not_txAborts habort, pulseSync_mode]
    exact entered_setMode (entered_offMode _) _

/-- A command keeps the mode or enters one of the five (R200). -/
theorem execStrobe_mode_cases (c : Target) (s : State) :
    (execStrobe c s).mode = s.mode ∨ Entered (execStrobe c s).mode := by
  rw [execStrobe_eq]
  cases strobeOf s.cfg c
  case reset => exact .inr (.inl rfl)
  case calibrate => exact .inr (by simp [Entered])
  case enableRx => exact .inr (entered_setMode (by simp [Entered]) s)
  case enableTx => exact .inr (entered_runTx (by simp [Entered]))
  case goIdle => exact .inr (by simp [Entered])
  case sleep => exact .inr (by simp [Entered])
  all_goals exact .inl (by simp)

/-- A frame that arrives changes the mode only in ReceiveMode (R250). -/
theorem receiveFrame_mode_cases (f : List Byte) (s : State) : (receiveFrame f s).mode = s.mode ∨
    (s.mode = .receiveMode ∧ Entered (receiveFrame f s).mode) := by
  unfold receiveFrame
  split
  · rename_i hmode
    exact (processFrame_mode_cases f s).imp_right fun hentered => ⟨hmode, hentered⟩
  · exact .inl rfl

/-- Settles O41: of the operations of an instruction, a command, a processed frame, a deassertion and a reset write the
mode. -/
theorem modeWriters : Obligations.ModeWriters := by
  intro i s t h hmode
  obtain ⟨a, rd, b, -, -, -, -, rfl⟩ | ⟨c, rw, b, -, hs, rfl⟩ | ⟨x, d, -, -, rfl⟩ | ⟨b, d, v, -, -, hv, rfl⟩ |
    ⟨b, d, r, v, -, -, hv, rfl⟩ | ⟨l, hi, rfl⟩ | ⟨f, hi, rfl⟩ | ⟨hi, rfl⟩ := exec_next h
  · exact absurd (by simp [accessHeader]) hmode
  · rw [strobeHeader_eq, endTransfer_mode, setBus_mode] at hmode ⊢
    rcases execStrobe_mode_cases c (beginTransfer s) with hsame | hentered
    · exact absurd (hsame.trans (beginTransfer_mode s)) hmode
    · exact ⟨.inl ⟨c, rw, b, hs⟩, hentered.ne_unentered⟩
  · exact absurd (by simp) hmode
  · refine absurd ?_ hmode
    rw [phaseEnd_eq, dataWrite_eq hv]
    simp
  · refine absurd ?_ hmode
    rw [phaseEnd_eq, readoutData_eq hv]
    simp
  · rw [setChipSelect_eq, refresh_mode] at hmode ⊢
    dsimp only at hmode ⊢
    split at hmode
    · rename_i hoff
      rw [if_pos hoff]
      exact ⟨.inr (.inr (.inl ⟨by rw [hi, hoff.1], hoff.2, rfl⟩)), by simp⟩
    · exact absurd rfl hmode
  · rw [refresh_mode] at hmode ⊢
    rcases receiveFrame_mode_cases f s.beginEvent with hsame | ⟨hreceive, hentered⟩
    · exact absurd hsame hmode
    · exact ⟨.inr (.inl ⟨f, hi, hreceive⟩), hentered.ne_unentered⟩
  · exact ⟨.inr (.inr (.inr ⟨hi, rfl⟩)), by simp [deviceReset_eq, State.reset]⟩

/-! ### The sticky mark -/

/-- A step keeps the mark and its reason, or it is a direct access under Refuse that sets both (R44, R358). -/
def MarkKeptOrSet (d : AccessDescriptor) (s t : State) : Prop :=
  (t.refused = s.refused ∧ t.refusedReason = s.refusedReason) ∨
  (t.refused = true ∧ t.refusedReason = some .directAccessUnmodelled ∧ s.cfg.directPolicy = .refuse ∧ isDirect d.kind)

/-- A data phase sets the mark only as a direct access (R174). -/
theorem dataWrite_mark {d : AccessDescriptor} {b : Byte} {s v : State} (h : dataWrite d b s = some v) :
    MarkKeptOrSet d s v := by
  obtain ⟨sp, -, rfl⟩ | ⟨-, rfl⟩ | ⟨hk, rfl⟩ := dataWrite_cases h
  · exact .inl (by simp)
  · exact .inl (by simp)
  · unfold dataWriteDirect
    split
    · rename_i hpol
      exact .inr ⟨rfl, rfl, hpol, hk⟩
    · exact .inl ⟨rfl, rfl⟩

/-- A read-out phase sets the mark only as a direct access (R179). -/
theorem readoutData_mark {d : AccessDescriptor} {r : Byte} {s v : State} (h : readoutData d s = some (r, v)) :
    MarkKeptOrSet d s v := by
  obtain ⟨sp, -, rfl⟩ | ⟨-, rfl⟩ | ⟨hk, rfl⟩ := readoutData_cases h
  · exact .inl (by simp)
  · exact .inl (by simp)
  · unfold readoutDirect
    split
    · rename_i hpol
      exact .inr ⟨rfl, rfl, hpol, hk⟩
    · exact .inl ⟨rfl, rfl⟩

/-- Settles O42: a direct phase sets the mark, power-on reset clears it, and every other way keeps it. -/
theorem refusedMarkIsSticky : Obligations.RefusedMarkIsSticky := by
  intro i s t h
  obtain ⟨a, rd, b, -, -, -, -, rfl⟩ | ⟨c, rw, b, -, -, rfl⟩ | ⟨x, d, -, -, rfl⟩ | ⟨b, d, v, hi, hd, hv, rfl⟩ |
    ⟨b, d, r, v, hi, hd, hv, rfl⟩ | ⟨l, -, rfl⟩ | ⟨f, -, rfl⟩ | ⟨hi, rfl⟩ := exec_next h
  · exact .inl (by simp [accessHeader])
  · exact .inl (by simp [strobeHeader_eq])
  · exact .inl (by simp)
  · rw [phaseEnd_eq, endTransfer_refused, endTransfer_refusedReason, setBus_refused, setBus_refusedReason]
    rcases dataWrite_mark hv with hkept | ⟨hmark, hreason, hpol, hk⟩
    · exact .inl (by simpa using hkept)
    · exact .inr (.inl ⟨hmark, hreason, by simpa using hpol, b, d, .inl hi, hd, hk⟩)
  · rw [phaseEnd_eq, endTransfer_refused, endTransfer_refusedReason, setBus_refused, setBus_refusedReason]
    rcases readoutData_mark hv with hkept | ⟨hmark, hreason, hpol, hk⟩
    · exact .inl (by simpa using hkept)
    · exact .inr (.inl ⟨hmark, hreason, by simpa using hpol, b, d, .inr hi, hd, hk⟩)
  · exact .inl (by simp [setChipSelect_eq])
  · exact .inl (by simp)
  · exact .inr (.inr ⟨hi, rfl, rfl⟩)

/-! ### cs and the pending slot -/

/-- Settles O43: every transfer keeps cs; only a command empties the slot, and only a frame that is held fills it. -/
theorem levelAndSlotWriters : Obligations.LevelAndSlotWriters := by
  intro i s t h
  obtain ⟨a, rd, b, -, -, -, -, rfl⟩ | ⟨c, rw, b, -, hs, rfl⟩ | ⟨x, d, -, -, rfl⟩ | ⟨b, d, v, -, -, hv, rfl⟩ |
    ⟨b, d, r, v, -, -, hv, rfl⟩ | ⟨l, hi, rfl⟩ | ⟨f, hi, rfl⟩ | ⟨hi, rfl⟩ := exec_next h
  · exact ⟨.inl (by simp [accessHeader]), .inl (by simp [accessHeader])⟩
  · refine ⟨.inl (by simp [strobeHeader_eq]), ?_⟩
    rw [strobeHeader_eq, endTransfer_pending, setBus_pending]
    rcases execStrobe_pending c (beginTransfer s) with hsame | hnone
    · exact .inl (hsame.trans (beginTransfer_pending s))
    · exact .inr (.inr ⟨.inl ⟨c, rw, b, hs⟩, hnone⟩)
  · exact ⟨.inl (by simp), .inl (by simp)⟩
  · rw [phaseEnd_eq, dataWrite_eq hv]
    exact ⟨.inl (by simp), .inl (by simp)⟩
  · rw [phaseEnd_eq, readoutData_eq hv]
    exact ⟨.inl (by simp), .inl (by simp)⟩
  · exact ⟨.inr (.inl (by simpa [setChipSelect_eq] using hi)), .inl (by simp [setChipSelect_eq])⟩
  · refine ⟨.inl (by simp), ?_⟩
    rw [refresh_pending, receiveFrame]
    split
    · exact .inl (by simp)
    · rename_i hmode
      exact .inr (.inl ⟨f, hi, hmode, rfl⟩)
  · exact ⟨.inr (.inr ⟨hi, rfl⟩), .inr (.inr ⟨.inr hi, rfl⟩)⟩

/-! ### The lines -/

/-- Every event but power-on reset ends with a Refresh (R310). -/
theorem exec_refreshed {i : Instr} {s t : State} (h : exec i s = .next t) (hi : i ≠ .powerOnReset) :
    ∃ u, RefreshedFrom u t := by
  have transfer : ∀ r v, ∃ u, RefreshedFrom u (endTransfer r v) := fun r v =>
    ⟨v, refreshedFrom_resp (refreshedFrom_refresh v) (some r)⟩
  obtain ⟨a, rd, b, -, -, -, -, rfl⟩ | ⟨c, rw, b, -, -, rfl⟩ | ⟨x, d, -, -, rfl⟩ | ⟨b, d, v, -, -, -, rfl⟩ |
    ⟨b, d, r, v, -, -, -, rfl⟩ | ⟨l, -, rfl⟩ | ⟨f, -, rfl⟩ | ⟨hpor, -⟩ := exec_next h
  · exact transfer _ _
  · exact transfer _ _
  · exact transfer _ _
  · exact transfer _ _
  · exact transfer _ _
  · exact ⟨_, refreshedFrom_refresh _⟩
  · exact ⟨_, refreshedFrom_refresh _⟩
  · exact absurd hpor hi

/-- Without inversion a refreshed line with a supported role shows that role's level (R313 to R321). -/
theorem refreshedFrom_get_of_roleLevel {u t : State} (h : RefreshedFrom u t) (hinv : t.cfg.gpioInvHonoured = false)
    {l : Line} {v : Bool} (hv : roleLevel t (lineRole t l) = some v) : t.gpio.get l = v := by
  obtain ⟨-, hlevels, -⟩ := h
  rw [hlevels l, hv]
  simp [invLevel, hinv]

/-- Settles O45: under the default codes each of the seven codes is its role, and a refreshed line shows that role's level. -/
theorem linesShowRoles : Obligations.LinesShowRoles := by
  intro i s t l h hi hroles hinv
  obtain ⟨u, hrefreshed⟩ := exec_refreshed h hi
  have hcfg : t.cfg = s.cfg := (configurationNeverChanges i s t h).1
  rw [← hcfg] at hroles hinv
  have shows : ∀ (code : BitVec 6) (r : GpioRole) (v : Bool), roleOf defaultConfig.gpioRoles code = r →
      roleLevel t r = some v → roleCode t l = code → t.gpio.get l = v := by
    intro code r v hr hv hcode
    have hline : lineRole t l = r := by rw [lineRole, hroles, hcode, hr]
    exact refreshedFrom_get_of_roleLevel hrefreshed hinv (hline ▸ hv)
  refine ⟨fun hc => ?rxThr, fun hc => ?txThr, shows 0x03 .txFifoThrPkt _ (by decide) rfl,
    shows 0x06 .pktSync _ (by decide) rfl, fun hc => ?marc1, fun hc => ?marc0, fun hc => ?ready⟩
  case rxThr =>
    rw [shows 0x00 .rxFifoThr _ (by decide) rfl hc, rxThr, decide_eq_true_eq]
    omega
  case txThr =>
    rw [shows 0x02 .txFifoThr _ (by decide) rfl hc, txThr, decide_eq_true_eq, txThreshold]
    omega
  case marc1 => rw [shows 0x25 .marcStatus1 _ (by decide) rfl hc, decide_eq_true_eq]
  case marc0 => rw [shows 0x26 .marcStatus0 _ (by decide) rfl hc, decide_eq_true_eq]
  case ready => rw [shows 0x32 .chipRdyn _ (by decide) rfl hc, decide_eq_true_eq]

/-! ### How a trace begins -/

/-- An operation only adds to the trace. -/
def Extends (s t : State) : Prop := ∃ o, t.out = s.out ++ o

theorem extends_of_eq {s t : State} (h : t.out = s.out) : Extends s t := ⟨[], by rw [h, List.append_nil]⟩

theorem Extends.trans {s t u : State} (h : Extends s t) (h' : Extends t u) : Extends s u := by
  obtain ⟨o, ho⟩ := h
  obtain ⟨o', ho'⟩ := h'
  exact ⟨o ++ o', by rw [ho', ho, List.append_assoc]⟩

theorem extends_log (c : DiagCode) (s : State) : Extends s (s.log c) := ⟨_, rfl⟩

theorem extends_refresh (s : State) : Extends s (refresh s) := ⟨_, refresh_out_eq_lineTrace s⟩

theorem extends_pulseSync (s : State) : Extends s (pulseSync s) := ⟨_, pulseSync_out s⟩

theorem extends_dropFrame (c : DiagCode) (s : State) : Extends s (dropFrame c s) :=
  ⟨_, congrArg State.out (dropForcesIdleOnlyIfConfigured s c)⟩

theorem extends_enqueue (q : Fifo) (v : Byte) (s : State) : Extends s (enqueue q v s) := by
  unfold enqueue
  split
  · exact extends_log _ s
  · cases q <;> exact extends_of_eq rfl

theorem extends_enqueueAll (q : Fifo) : ∀ (l : List Byte) (s : State), Extends s (enqueueAll q l s)
  | [], _ => extends_of_eq rfl
  | v :: l, s => (extends_enqueue q v s).trans (extends_enqueueAll q l _)

theorem extends_maybeAck (f : List Byte) (s : State) : Extends s (maybeAck f s) :=
  ⟨_, congrArg State.out (maybeAck_eq f s)⟩

theorem extends_writeMode (m : ChipMode) (s : State) : Extends s (s.writeMode m) := extends_of_eq rfl

theorem extends_respond (r : Byte) (s : State) : Extends s (s.respond r) := extends_of_eq rfl

/-- Steps 5 to 9 only add to the trace (R269 to R275). -/
theorem extends_acceptFrame (f : List Byte) (s : State) : Extends s (acceptFrame f s) := by
  unfold acceptFrame
  exact (((extends_enqueueAll .rx (rxBody s f) s).trans (extends_writeMode _ _)).trans (extends_maybeAck f _)).trans
    (extends_pulseSync _)

/-- The receive pipeline only adds to the trace (R251 to R276). -/
theorem extends_processFrame (f : List Byte) (s : State) : Extends s (processFrame f s) := by
  obtain hshort | ⟨c, ok, hdrop⟩ | haccept := processFrame_cases f s
  · rw [hshort]
    exact extends_log .shortFrame (drawn s)
  · rw [hdrop]
    exact extends_dropFrame c { drawn s with lastCrcOk := ok }
  · rw [haccept]
    have hchecked : Extends s (crcChecked f s) := ⟨_, rfl⟩
    exact hchecked.trans (extends_acceptFrame f _)

/-- `SetMode` only adds to the trace (R25). -/
theorem extends_setMode (m : ChipMode) (s : State) : Extends s (setMode m s) := by
  have hempty : Extends s { s.writeMode m with pending := none } := extends_of_eq rfl
  unfold setMode
  dsimp only
  split
  · split
    · exact hempty.trans (extends_processFrame _ _)
    · exact extends_writeMode m s
  · exact extends_writeMode m s

/-- A transmit only adds to the trace (R290 to R297). -/
theorem extends_runTx (s : State) : Extends s (runTx s) := by
  by_cases habort : TxAborts s
  · rw [runTx_of_txAborts habort]
    exact ⟨_, List.append_assoc _ _ _⟩
  · rw [runTx_of_not_txAborts habort]
    have hsent : Extends s { s with txFifo := [], out := s.out ++ txUnderflows s ++ [.frameSent (txSent s)] } :=
      ⟨_, List.append_assoc _ _ _⟩
    exact (hsent.trans (extends_setMode _ _)).trans (extends_pulseSync _)

/-- A command only adds to the trace; a reset leaves it (R200, R372). -/
theorem extends_execStrobe (c : Target) (s : State) : Extends s (execStrobe c s) := by
  rw [execStrobe_eq]
  cases strobeOf s.cfg c
  case enableRx => exact extends_setMode _ s
  case enableTx => exact (extends_writeMode .transmitMode s).trans (extends_runTx _)
  case unknown => exact extends_log _ s
  all_goals exact extends_of_eq rfl

/-- A data phase only adds to the trace (R170 to R174). -/
theorem extends_dataWrite {d : AccessDescriptor} {b : Byte} {s v : State} (h : dataWrite d b s = some v) :
    Extends s v := by
  obtain ⟨sp, -, rfl⟩ | ⟨-, rfl⟩ | ⟨-, rfl⟩ := dataWrite_cases h
  · cases hkind : cellKind s.cfg sp d.addr
    · rw [regWrite_of_stored hkind]; exact extends_of_eq rfl
    · rw [regWrite_of_computed hkind]; exact extends_log _ s
    · rw [regWrite_of_unbacked hkind]; exact extends_log _ s
  · exact extends_enqueue _ _ _
  · unfold dataWriteDirect
    split <;> exact ⟨_, rfl⟩

/-- A read-out phase only adds to the trace (R175 to R179). -/
theorem extends_readoutData {d : AccessDescriptor} {r : Byte} {s v : State} (h : readoutData d s = some (r, v)) :
    Extends s v := by
  obtain ⟨sp, -, rfl⟩ | ⟨-, rfl⟩ | ⟨-, rfl⟩ := readoutData_cases h
  · unfold regRead
    split
    · exact extends_of_eq rfl
    · exact extends_of_eq rfl
    · exact extends_log _ s
  · unfold dequeue
    split
    · exact extends_log _ s
    · exact extends_of_eq rfl
  · unfold readoutDirect
    split
    · exact ⟨_, rfl⟩
    · exact extends_of_eq rfl

/-- A transfer that goes on from its pre-checks begins its trace with their logs, and answers (R150, R151). -/
theorem preLogs_first {s v : State} (h : Extends (beginTransfer s) v) (r : Byte) :
    (∃ o, (endTransfer r v).out = preLogs s ++ o) ∧ (endTransfer r v).resp ≠ none := by
  obtain ⟨o, ho⟩ : Extends (beginTransfer s) (endTransfer r v) :=
    (h.trans (extends_refresh v)).trans (extends_respond r (refresh v))
  rw [beginTransfer_eq_preLogs] at ho
  exact ⟨⟨o, ho⟩, by simp⟩

/-- What R150 and R348 ask of the trace and the response of an event. -/
def Answered (i : Instr) (s t : State) : Prop :=
  (i.isEvent = false → (∃ o, t.out = preLogs s ++ o) ∧ t.resp ≠ none) ∧ (i.isEvent = true → t.resp = none)

theorem answered_of_byte {i : Instr} {s t : State} (hi : i.isEvent = false)
    (h : (∃ o, t.out = preLogs s ++ o) ∧ t.resp ≠ none) : Answered i s t :=
  ⟨fun _ => h, fun hi' => absurd hi' (by rw [hi]; simp)⟩

theorem answered_of_event {i : Instr} {s t : State} (hi : i.isEvent = true) (h : t.resp = none) : Answered i s t :=
  ⟨fun hi' => absurd hi' (by rw [hi]; simp), fun _ => h⟩

/-- Settles O46: every transfer goes on from its pre-checks, and no other event answers. -/
theorem preChecksComeFirst : Obligations.PreChecksComeFirst := by
  intro i s t h
  suffices Answered i s t from this
  have hsetBus : ∀ {u v : State} b d, Extends u v → Extends u (v.setBus b d) := fun _ _ h => h
  obtain ⟨a, rd, b, hi, -, -, -, rfl⟩ | ⟨c, rw, b, hi, -, rfl⟩ | ⟨x, d, hi, -, rfl⟩ | ⟨b, d, v, hi, -, hv, rfl⟩ |
    ⟨b, d, r, v, hi, -, hv, rfl⟩ | ⟨l, hi, rfl⟩ | ⟨f, hi, rfl⟩ | ⟨hi, rfl⟩ := exec_next h
  · exact answered_of_byte hi (preLogs_first (hsetBus _ _ (extends_of_eq rfl)) _)
  · rw [strobeHeader_eq]
    exact answered_of_byte hi (preLogs_first (hsetBus _ _ (extends_execStrobe c _)) _)
  · exact answered_of_byte (by rw [hi]; rfl) (preLogs_first (hsetBus _ _ (extends_of_eq rfl)) _)
  · rw [phaseEnd_eq]
    exact answered_of_byte (by rw [hi]; rfl) (preLogs_first (hsetBus _ _ (extends_dataWrite hv)) _)
  · rw [phaseEnd_eq]
    exact answered_of_byte (by rw [hi]; rfl) (preLogs_first (hsetBus _ _ (extends_readoutData hv)) _)
  · exact answered_of_event (by rw [hi]; rfl) (by simp [setChipSelect_eq])
  · exact answered_of_event (by rw [hi]; rfl) (by simp)
  · exact answered_of_event (by rw [hi]; rfl) rfl

end Sys2Proof.Proofs
end

section
/-!
The invariant `State.Inv`. What an operation of an instruction keeps between two Refreshes is `DeviceInv`, four
parts that each speak of a few fields; what every phase leaves of the bus is `BusInv`; the rest of the invariant is what a
Refresh leaves. The obligations O5 to O7.
-/

namespace Sys2Proof.Proofs

open Sys2Proof Sys2Proof.Machine Sys2Proof.Spec

/-! ### The parts of the invariant -/

/-- The bank is canonical and declared, and a non-zero CRC_CFG has selected the pair (R27, R84). -/
structure BankInv (c : Config) (m : Memory) (poly seed : Word16) : Prop where
  canonical : Memory.wf c m = true
  declared : ∀ e ∈ m, StoredKey c e.1
  activePair : ∀ p, crcPairOf c (bankField c m c.regMap.crcCfg 2) = some p → poly = p.poly ∧ seed = p.seed

/-- Both FIFOs fit a capacity that is not 0 (R45). -/
structure FifoInv (c : Config) (rx tx : List Byte) : Prop where
  capacityPositive : 0 < c.fifoCapacity
  rxFits : rx.length ≤ c.fifoCapacity
  txFits : tx.length ≤ c.fifoCapacity

/-- The mode is one of the five, and ReceiveMode holds no frame (R24, R272). -/
structure ModeInv (m : ChipMode) (pending : Option (List Byte)) : Prop where
  entered : Entered m
  held : m = .receiveMode → pending = none

/-- The bus state and the descriptor go together (R23, R182). -/
structure BusInv (bus : BusState) (desc : Option AccessDescriptor) : Prop where
  descDead : bus = .waitingForHeader ↔ desc = none
  descKind : ∀ d, desc = some d → d.kind ≠ .commandStrobe
  addressPhase : ∀ d, desc = some d → bus = .waitingForAddress → hasAddressPhase d.kind = true
  dataPhase : ∀ d, desc = some d → bus = .waitingForData → d.isRead = false
  readoutPhase : ∀ d, desc = some d → bus = .readout → d.isRead = true

/-- What every operation of an instruction keeps. -/
structure DeviceInv (s : State) : Prop where
  bank : BankInv s.cfg s.bank s.activePoly s.activeSeed
  fifo : FifoInv s.cfg s.rxFifo s.txFifo
  mode : ModeInv s.mode s.pending
  mark : s.refused = s.refusedReason.isSome

theorem deviceInv_of_inv {s : State} (h : s.Inv) : DeviceInv s where
  bank := ⟨h.bankCanonical, h.bankDeclared, h.activePair⟩
  fifo := ⟨h.capacityPositive, h.rxFits, h.txFits⟩
  mode := ⟨h.enteredMode, h.pendingHeld⟩
  mark := h.markReason

theorem busInv_of_inv {s : State} (h : s.Inv) : BusInv s.bus s.desc :=
  ⟨h.descDead, h.descKind, h.addressPhase, h.dataPhase, h.readoutPhase⟩

/-- A Refresh turns what the operations keep into the invariant: it drives the MISO line, sets the latch by its bounds, and
consumes the pulse (R310, R315, R322). -/
theorem inv_of_refreshedFrom {u t : State} (hr : RefreshedFrom u t) (hpulse : t.syncPulse = 0) (hd : DeviceInv t)
    (hb : BusInv t.bus t.desc) : t.Inv := by
  obtain ⟨hmiso, -, hlatch⟩ := hr
  obtain ⟨hbank, hfifo, hmode, hmark⟩ := hd
  exact {
    bankCanonical := hbank.canonical
    bankDeclared := hbank.declared
    capacityPositive := hfifo.capacityPositive
    rxFits := hfifo.rxFits
    txFits := hfifo.txFits
    noPulse := hpulse
    descDead := hb.descDead
    descKind := hb.descKind
    addressPhase := hb.addressPhase
    dataPhase := hb.dataPhase
    readoutPhase := hb.readoutPhase
    misoLevel := hmiso
    enteredMode := hmode.entered
    pendingHeld := hmode.held
    latchSet := fun hfull => by rw [hlatch, if_pos hfull]
    latchClear := fun hroom hlow => by rw [hlatch, if_neg hroom]; exact if_pos hlow
    markReason := hmark
    activePair := hbank.activePair }

/-! ### The device -/

theorem DeviceInv.refresh {s : State} (h : DeviceInv s) : DeviceInv (refresh s) where
  bank := by simpa using h.bank
  fifo := by simpa using h.fifo
  mode := by simpa using h.mode
  mark := by simpa using h.mark

theorem DeviceInv.pulseSync {s : State} (h : DeviceInv s) : DeviceInv (pulseSync s) where
  bank := by simpa using h.bank
  fifo := by simpa using h.fifo
  mode := by simpa using h.mode
  mark := by simpa using h.mark

theorem DeviceInv.beginTransfer {s : State} (h : DeviceInv s) : DeviceInv (beginTransfer s) where
  bank := by simpa using h.bank
  fifo := by simpa using h.fifo
  mode := by simpa using h.mode
  mark := by simpa using h.mark

theorem DeviceInv.setBus {s : State} (h : DeviceInv s) (b : BusState) (d : Option AccessDescriptor) :
    DeviceInv (s.setBus b d) := ⟨h.bank, h.fifo, h.mode, h.mark⟩

theorem DeviceInv.respond {s : State} (h : DeviceInv s) (r : Byte) : DeviceInv (s.respond r) :=
  ⟨h.bank, h.fifo, h.mode, h.mark⟩

theorem DeviceInv.log {s : State} (h : DeviceInv s) (c : DiagCode) : DeviceInv (s.log c) :=
  ⟨h.bank, h.fifo, h.mode, h.mark⟩

theorem DeviceInv.refuse {s : State} (h : DeviceInv s) (r : RefuseReason) : DeviceInv (s.refuse r) :=
  ⟨h.bank, h.fifo, h.mode, rfl⟩

/-- Another of the five modes, if it does not enter ReceiveMode. -/
theorem DeviceInv.writeMode {s : State} (h : DeviceInv s) {m : ChipMode} (hm : Entered m) (hne : m ≠ .receiveMode) :
    DeviceInv (s.writeMode m) := ⟨h.bank, h.fifo, ⟨hm, fun hr => absurd hr hne⟩, h.mark⟩

/-- The end of a transfer is a Refresh and the response (R151). -/
theorem DeviceInv.endTransfer {s : State} (h : DeviceInv s) (r : Byte) : DeviceInv (endTransfer r s) :=
  h.refresh.respond r

/-! #### The bank -/

/-- The bank after reset, with the pair of CRC_CFG's reset value (R100). -/
theorem bankInv_reset (c : Config) : BankInv c [] (resetPair c).poly (resetPair c).seed where
  canonical := wf_reset c
  declared := by simp
  activePair := fun p hp => by rw [resetPair, hp]; exact ⟨rfl, rfl⟩

/-- A write of a stored cell keeps the bank declared, and the pair follows the CRC_CFG that the cell then holds (R81, R84). -/
theorem BankInv.regWrite {s : State} (h : BankInv s.cfg s.bank s.activePoly s.activeSeed) {sp : Space} {a : Byte}
    (hkind : cellKind s.cfg sp a = .stored) (v : Byte) :
    BankInv s.cfg (Memory.write s.cfg (cellKey sp a) v s.bank) (pairAfterWrite sp a v s).poly
      (pairAfterWrite sp a v s).seed where
  canonical := wf_write _ _ _ _ h.canonical
  declared := fun e he => by
    rcases mem_write he with hold | rfl
    · exact h.declared e hold
    · exact ⟨sp, a, rfl, hkind⟩
  activePair := fun p hp => by
    have hread := read_write s.cfg (cellKey sp a) (cellKey s.cfg.regMap.crcCfg.space s.cfg.regMap.crcCfg.addr) v s.bank
      h.canonical
    rw [bankField, hread] at hp
    unfold pairAfterWrite
    by_cases hin : inCell s.cfg.regMap.crcCfg sp a
    · rw [if_pos (by rw [hin.1, hin.2])] at hp
      have hp' : crcPairOf s.cfg (crcCfgOf s.cfg v) = some p := hp
      rw [if_pos hin, hp']
      exact ⟨rfl, rfl⟩
    · rw [if_neg fun hkey => hin (cellKey_injective hkey)] at hp
      rw [if_neg hin]
      exact h.activePair p hp

/-! #### The receive and transmit pipelines -/

/-- The receive pipeline keeps the RX FIFO within its capacity (R271). -/
theorem length_rxFifo_processFrame {f : List Byte} {s : State} (h : s.rxFifo.length ≤ s.cfg.fifoCapacity) :
    (processFrame f s).rxFifo.length ≤ s.cfg.fifoCapacity := by
  obtain hshort | ⟨c, ok, hdrop⟩ | haccept := processFrame_cases f s
  · rw [hshort]; exact h
  · rw [hdrop, dropFrame_rxFifo]; exact h
  · rw [haccept, acceptFrame_rxFifo f (crcChecked f s) h]
    exact List.length_take_le _ _

/-- With nothing pending the receive pipeline keeps the device's invariant (R251 to R276). -/
theorem DeviceInv.processFrame {s : State} (h : DeviceInv s) (hp : s.pending = none) (f : List Byte) :
    DeviceInv (processFrame f s) where
  bank := by simpa using h.bank
  fifo := ⟨by simpa using h.fifo.capacityPositive, by simpa using length_rxFifo_processFrame h.fifo.rxFits,
    by simpa using h.fifo.txFits⟩
  mode := by
    refine ⟨?_, fun _ => by rw [processFrame_pending, hp]⟩
    rcases processFrame_mode_cases f s with hsame | hentered
    · rw [hsame]; exact h.mode.entered
    · exact hentered
  mark := by simpa using h.mark

/-- `SetMode` keeps the device's invariant: an entry into ReceiveMode empties the slot (R25). -/
theorem DeviceInv.setMode {s : State} (h : DeviceInv s) {m : ChipMode} (hm : Entered m) : DeviceInv (setMode m s) := by
  by_cases hne : m = .receiveMode
  · subst hne
    have written : s.pending = none → DeviceInv (s.writeMode .receiveMode) := fun hp =>
      ⟨h.bank, h.fifo, ⟨hm, fun _ => hp⟩, h.mark⟩
    by_cases hmode : s.mode = .receiveMode
    · rw [setMode_of_receiveMode _ _ hmode]
      exact written (h.mode.held hmode)
    · rcases hp : s.pending with _ | f
      · rw [setMode_of_pending_none _ _ hp]
        exact written hp
      · rw [setMode_entry s f hmode hp]
        have hempty : DeviceInv { s.writeMode .receiveMode with pending := none } :=
          ⟨h.bank, h.fifo, ⟨hm, fun _ => rfl⟩, h.mark⟩
        exact hempty.processFrame rfl f
  · rw [setMode_of_ne_receiveMode _ _ hne]
    exact h.writeMode hm hne

/-- A transmit keeps the device's invariant and leaves the TX FIFO empty (R290 to R297). -/
theorem DeviceInv.runTx {s : State} (h : DeviceInv s) : DeviceInv (runTx s) := by
  have hempty : FifoInv s.cfg s.rxFifo [] := ⟨h.fifo.capacityPositive, h.fifo.rxFits, Nat.zero_le _⟩
  by_cases habort : TxAborts s
  · rw [runTx_of_txAborts habort]
    exact ⟨h.bank, hempty, h.mode, h.mark⟩
  · rw [runTx_of_not_txAborts habort]
    have hsent : DeviceInv { s with txFifo := [], out := s.out ++ txUnderflows s ++ [.frameSent (txSent s)] } :=
      ⟨h.bank, hempty, h.mode, h.mark⟩
    exact (hsent.setMode (entered_offMode _)).pulseSync

/-- The reset routine leaves the device's invariant, whatever it starts from but for the mark it may keep (R372). -/
theorem deviceInv_deviceReset (k : Bool) {s : State} (hcap : 0 < s.cfg.fifoCapacity)
    (hmark : s.refused = s.refusedReason.isSome) : DeviceInv (deviceReset k s) where
  bank := bankInv_reset s.cfg
  fifo := ⟨hcap, Nat.zero_le _, Nat.zero_le _⟩
  mode := ⟨.inl rfl, fun _ => rfl⟩
  mark := by cases k <;> simp [deviceReset_eq, hmark]

/-- A command keeps the device's invariant (R200). -/
theorem DeviceInv.execStrobe {s : State} (h : DeviceInv s) (c : Target) : DeviceInv (execStrobe c s) := by
  rw [execStrobe_eq]
  cases strobeOf s.cfg c
  case reset => exact deviceInv_deviceReset true h.fifo.capacityPositive h.mark
  case calibrate => exact h.writeMode (by simp [Entered]) (by simp)
  case enableRx => exact h.setMode (by simp [Entered])
  case enableTx => exact (h.writeMode (by simp [Entered]) (by simp)).runTx
  case goIdle => exact h.writeMode (by simp [Entered]) (by simp)
  case sleep => exact h.writeMode (by simp [Entered]) (by simp)
  case flushRx => exact ⟨h.bank, ⟨h.fifo.capacityPositive, Nat.zero_le _, h.fifo.txFits⟩, h.mode, h.mark⟩
  case flushTx => exact ⟨h.bank, ⟨h.fifo.capacityPositive, h.fifo.rxFits, Nat.zero_le _⟩, h.mode, h.mark⟩
  case noOperation => exact h
  case unknown => exact h.log _

/-! #### The operand bytes -/

/-- A byte into the TX FIFO keeps it within its capacity (R87). -/
theorem DeviceInv.enqueue_tx {s : State} (h : DeviceInv s) (b : Byte) : DeviceInv (enqueue .tx b s) where
  bank := by simpa using h.bank
  fifo := by
    refine ⟨by simpa using h.fifo.capacityPositive, by simpa using h.fifo.rxFits, ?_⟩
    have hfits := h.fifo.txFits
    rw [enqueue_tx_txFifo, enqueue_cfg]
    split
    · exact hfits
    · rw [List.length_append, List.length_singleton]
      omega
  mode := by simpa using h.mode
  mark := by simpa using h.mark

/-- A data phase keeps the device's invariant (R170 to R174). -/
theorem DeviceInv.dataWrite {s v : State} (h : DeviceInv s) {d : AccessDescriptor} {b : Byte}
    (hv : dataWrite d b s = some v) : DeviceInv v := by
  obtain ⟨sp, -, rfl⟩ | ⟨-, rfl⟩ | ⟨-, rfl⟩ := dataWrite_cases hv
  · cases hkind : cellKind s.cfg sp d.addr
    · rw [regWrite_of_stored hkind]
      exact ⟨h.bank.regWrite hkind b, h.fifo, h.mode, h.mark⟩
    · rw [regWrite_of_computed hkind]
      exact h.log _
    · rw [regWrite_of_unbacked hkind]
      exact h.log _
  · exact h.enqueue_tx b
  · unfold dataWriteDirect
    split
    · exact (h.refuse _).log _
    · exact h.log _

/-- A read-out phase keeps the device's invariant (R175 to R179). -/
theorem DeviceInv.readoutData {s v : State} (h : DeviceInv s) {d : AccessDescriptor} {r : Byte}
    (hv : readoutData d s = some (r, v)) : DeviceInv v := by
  obtain ⟨sp, -, rfl⟩ | ⟨-, rfl⟩ | ⟨-, rfl⟩ := readoutData_cases hv
  · unfold regRead
    split
    · exact h
    · exact h
    · exact h.log _
  · rcases hrx : s.fifo .rx with _ | ⟨x, rest⟩
    · rw [dequeue_of_fifo_nil hrx]
      exact h.log _
    · rw [dequeue_of_fifo_cons hrx]
      have hfits := h.fifo.rxFits
      have hrx' : s.rxFifo = x :: rest := hrx
      rw [hrx', List.length_cons] at hfits
      exact ⟨h.bank, ⟨h.fifo.capacityPositive, Nat.le_of_succ_le hfits, h.fifo.txFits⟩, h.mode, h.mark⟩
  · unfold readoutDirect
    split
    · have hrefused := (h.refuse .directAccessUnmodelled).log .unmodelledAccess
      exact ⟨hrefused.bank, hrefused.fifo, hrefused.mode, hrefused.mark⟩
    · exact h

/-! ### The bus -/

/-- No access in progress. -/
theorem busInv_ended : BusInv .waitingForHeader none := by
  constructor <;> simp

/-- The first phase of a fresh access is one its kind has (R182). -/
theorem busInv_opened {k : TargetKind} (hk : k ≠ .commandStrobe) (a : Byte) (isRead isBurst : Bool) :
    BusInv (busAfterHeader k isRead) (some ⟨a, isRead, isBurst, k⟩) := by
  cases k
  case commandStrobe => exact absurd rfl hk
  all_goals
    cases isRead <;> constructor <;> simp [busAfterHeader, hasAddressPhase]

/-- The phase after an address byte is that of the RW bit (R169). -/
theorem busInv_addressed {d : AccessDescriptor} (hk : d.kind ≠ .commandStrobe) (x : Byte) :
    BusInv (busAfterAddress d.isRead) (some { d with addr := x }) := by
  cases d.isRead <;> constructor <;> simp [busAfterAddress, hk]

/-- The next byte of a burst is of the same kind and the same phase (R180). -/
theorem busInv_phaseEnd {d : AccessDescriptor} {v : State} (h : BusInv v.bus (some d)) :
    BusInv (phaseEnd d v).bus (phaseEnd d v).desc := by
  obtain ⟨hdead, hkind, haddr, hdata, hreadout⟩ := h
  have hnext : (nextDesc v.cfg d).kind = d.kind ∧ (nextDesc v.cfg d).isRead = d.isRead := by
    unfold nextDesc
    split <;> exact ⟨rfl, rfl⟩
  unfold phaseEnd
  split
  · constructor <;> simp_all
  · exact busInv_ended

/-! ### A step -/

/-- A transfer that keeps the device's invariant, and leaves a good bus state, keeps the invariant. -/
theorem inv_endTransfer {s : State} (h : DeviceInv s) (hb : BusInv s.bus s.desc) (r : Byte) : (endTransfer r s).Inv :=
  inv_of_refreshedFrom (refreshedFrom_resp (refreshedFrom_refresh s) (some r)) (endTransfer_syncPulse r s)
    (h.endTransfer r) (by simpa using hb)

/-- The same for an event that is no byte. -/
theorem inv_refresh {s : State} (h : DeviceInv s) (hb : BusInv s.bus s.desc) : (refresh s).Inv :=
  inv_of_refreshedFrom (refreshedFrom_refresh s) (refresh_syncPulse s) h.refresh (by simpa using hb)

/-- Power-on reset leaves the invariant (R371): the empty TX FIFO is not full, and the latch is clear. -/
theorem inv_deviceReset {s : State} (hcap : 0 < s.cfg.fifoCapacity) (hmark : s.refused = s.refusedReason.isSome)
    (k : Bool) : (deviceReset k s).Inv := by
  obtain ⟨hbank, hfifo, hmode, hmark'⟩ := deviceInv_deviceReset k hcap hmark
  have hb : BusInv (deviceReset k s).bus (deviceReset k s).desc := busInv_ended
  exact {
    bankCanonical := hbank.canonical
    bankDeclared := hbank.declared
    capacityPositive := hfifo.capacityPositive
    rxFits := hfifo.rxFits
    txFits := hfifo.txFits
    noPulse := rfl
    descDead := hb.descDead
    descKind := hb.descKind
    addressPhase := hb.addressPhase
    dataPhase := hb.dataPhase
    readoutPhase := hb.readoutPhase
    misoLevel := deviceReset_miso_eq_not_cs k s
    enteredMode := hmode.entered
    pendingHeld := hmode.held
    latchSet := fun hfull => absurd hfull (Nat.ne_of_lt hcap)
    latchClear := fun _ _ => rfl
    markReason := hmark'
    activePair := hbank.activePair }

/-- Every well-formed instruction keeps the invariant; the levels and the latch of the state before are not needed. -/
theorem inv_of_exec {i : Instr} {s t : State} (hwf : i.wf = true) (hd : DeviceInv s) (hb : BusInv s.bus s.desc)
    (h : exec i s = .next t) : t.Inv := by
  obtain ⟨a, rd, b, -, -, -, hk, rfl⟩ | ⟨c, rw, b, -, -, rfl⟩ | ⟨x, d, -, hdesc, rfl⟩ | ⟨b, d, v, -, hdesc, hv, rfl⟩ |
    ⟨b, d, r, v, -, hdesc, hv, rfl⟩ | ⟨l, -, rfl⟩ | ⟨f, -, rfl⟩ | ⟨-, rfl⟩ := exec_next h
  · -- a header that opens an access
    exact inv_endTransfer (hd.beginTransfer.setBus _ _) (busInv_opened (hk hwf _) _ _ _) _
  · -- a strobe
    rw [strobeHeader_eq]
    exact inv_endTransfer ((hd.beginTransfer.execStrobe c).setBus _ _) busInv_ended _
  · -- an address byte
    exact inv_endTransfer (hd.beginTransfer.setBus _ _) (busInv_addressed (hb.descKind d hdesc) x) _
  · -- a data byte
    have hbus : v.bus = s.bus := by rw [dataWrite_eq hv]; simp
    refine inv_endTransfer ?_ (busInv_phaseEnd (by rw [hbus, ← hdesc]; exact hb)) _
    rw [phaseEnd_eq]
    exact (hd.beginTransfer.dataWrite hv).setBus _ _
  · -- a read-out byte
    have hbus : v.bus = s.bus := by rw [readoutData_eq hv]; simp
    refine inv_endTransfer ?_ (busInv_phaseEnd (by rw [hbus, ← hdesc]; exact hb)) _
    rw [phaseEnd_eq]
    exact (hd.beginTransfer.readoutData hv).setBus _ _
  · -- chip select
    rw [setChipSelect_eq]
    refine inv_refresh ⟨hd.bank, hd.fifo, ?_, hd.mark⟩ ?_
    · dsimp only
      split
      · exact ⟨by simp [Entered], by simp⟩
      · exact hd.mode
    · dsimp only
      split
      · exact busInv_ended
      · exact hb
  · -- a frame from the medium
    have hevent : DeviceInv s.beginEvent := ⟨hd.bank, hd.fifo, hd.mode, hd.mark⟩
    refine inv_refresh ?_ (by simpa using hb)
    unfold receiveFrame
    split
    · rename_i hmode
      exact hevent.processFrame (hd.mode.held hmode) f
    · rename_i hmode
      exact ⟨hd.bank, hd.fifo, ⟨hd.mode.entered, fun hr => absurd hr hmode⟩, hd.mark⟩
  · -- power-on reset
    exact inv_deviceReset (s := s.beginEvent) hd.fifo.capacityPositive hd.mark false

/-- The events that are no bytes are well-formed instructions, and so is every byte (R127, R131). -/
theorem wf_decodeEvent (l : HeaderBits) (bus : BusState) (e : Event) : (decodeEvent l bus e).wf = true := by
  cases e
  case transfer b => exact wf_decodeByte l bus b
  all_goals rfl

/-- Settles O5: after reset the device's parts hold, the lines are low but MISO, and the latch is clear. -/
theorem resetIsGood : Obligations.ResetIsGood := by
  have hreset : deviceReset false State.reset = State.reset := rfl
  have hinv : (deviceReset false State.reset).Inv := inv_deviceReset (by decide) rfl false
  rw [hreset] at hinv
  exact hinv

/-- Settles O6: the event to come is taken off the list, and the well-formed instruction it decodes to keeps the
invariant. -/
theorem stepKeepsInvariant : Obligations.StepKeepsInvariant := by
  intro s t hs h
  have hd := deviceInv_of_inv hs
  rcases hin : s.input with _ | ⟨e, rest⟩
  · rw [step_of_input_nil hin] at h
    rw [← Host.Outcome.next.inj h]
    exact hs
  · rw [step_of_input_cons hin] at h
    have hd' : DeviceInv { s with input := rest } := ⟨hd.bank, hd.fifo, hd.mode, hd.mark⟩
    have hb : BusInv s.bus s.desc := busInv_of_inv hs
    exact inv_of_exec (wf_decodeEvent _ _ _) hd' hb h

/-! ### Safety -/

/-- Every kind but CommandStrobe has a data phase (R126). -/
theorem dataWrite_answers {d : AccessDescriptor} (hk : d.kind ≠ .commandStrobe) (b : Byte) (s : State) :
    ∃ v, dataWrite d b s = some v := by
  unfold dataWrite
  cases hkind : d.kind
  case commandStrobe => exact absurd hkind hk
  all_goals exact ⟨_, rfl⟩

/-- Every kind but CommandStrobe has a read-out phase (R126). -/
theorem readoutData_answers {d : AccessDescriptor} (hk : d.kind ≠ .commandStrobe) (s : State) :
    ∃ x, readoutData d s = some x := by
  unfold readoutData
  cases hkind : d.kind
  case commandStrobe => exact absurd hkind hk
  all_goals exact ⟨_, rfl⟩

/-- An instruction answers a next state if, where it is an operand byte, an access with operand bytes is in progress. -/
theorem exec_answers {i : Instr} {s : State}
    (h : readIn i ≠ .waitingForHeader → ∃ d, s.desc = some d ∧ d.kind ≠ .commandStrobe) : ∃ t, exec i s = .next t := by
  cases i
  case addrByte x =>
    obtain ⟨d, hd, -⟩ := h (by simp [readIn])
    exact ⟨_, exec_addrByte hd x⟩
  case dataByte b =>
    obtain ⟨d, hd, hk⟩ := h (by simp [readIn])
    obtain ⟨v, hv⟩ := dataWrite_answers hk b (beginTransfer s)
    exact ⟨_, exec_dataByte hd hv⟩
  case readoutByte x =>
    obtain ⟨d, hd, hk⟩ := h (by simp [readIn])
    obtain ⟨⟨r, v⟩, hv⟩ := readoutData_answers hk (beginTransfer s)
    exact ⟨_, exec_readoutByte hd hv⟩
  all_goals exact ⟨_, rfl⟩

/-- From a good state a step answers a next state: an operand byte arrives only where an access is in progress (R120, R340). -/
theorem step_answers {s : State} (hs : s.Inv) : ∃ t, step s = .next t := by
  rcases hin : s.input with _ | ⟨e, rest⟩
  · exact ⟨s, step_of_input_nil hin⟩
  rw [step_of_input_cons hin]
  apply exec_answers
  intro hread
  have hbus : s.bus ≠ .waitingForHeader := by
    cases e
    case transfer b =>
      rw [← readIn_decodeByte s.cfg.header s.bus b]
      exact hread
    all_goals exact absurd rfl hread
  obtain ⟨d, hd⟩ := Option.ne_none_iff_exists'.mp (mt hs.descDead.mpr hbus)
  exact ⟨d, hd, hs.descKind d hd⟩

/-- A run that begins with a step to `u` goes on as the run from `u`. -/
theorem run_succ_of_step {M : Host.Core} {s u : M.State} (h : M.step s = .next u) (n : Nat) :
    M.run (n + 1) s = M.run n u := by
  rw [Host.Core.run, h]

/-- Settles O7, by induction on the number of steps: a step from a good state answers a good state. -/
theorem noRunStops : Obligations.NoRunStops := by
  intro s hs n
  induction n generalizing s with
  | zero => exact ⟨s, rfl⟩
  | succ n ih =>
    obtain ⟨u, hu⟩ := step_answers hs
    obtain ⟨t, ht⟩ := ih u (stepKeepsInvariant s u hs hu)
    exact ⟨t, (run_succ_of_step hu n).trans ht⟩

end Sys2Proof.Proofs
end

section
/-!
The length limit (43_frame_receive.md R256), the check values of the CRC engine (42_crc_engine.md R230 to R237) and the values
after reset (70_reset_and_hazards.md R371). The obligations O51, O54 to O56.
-/

namespace Sys2Proof.Proofs

open Sys2Proof Sys2Proof.Machine Sys2Proof.Spec

/-! ### The length limit -/

/-- The default limit with both margins on, in VariableFirstByte mode (R256, D21). -/
theorem lengthLimit_of_margins {s : State} (hrule : s.cfg.lengthRule = defaultConfig.lengthRule)
    (hcfg : lengthConfig s = 1) (hflush : crcAutoflush s = true) (hstatus : appendStatus s = true) :
    lengthLimit s = min ((packetLength s).toNat : Int) 127 - 2 := by
  rw [lengthLimit, lengthRuleLimit_of_nil (by rw [hrule]; rfl), hrule]
  simp only [lengthFormula, lengthArgs, hcfg, hflush, hstatus]
  rfl

/-- Settles O51: the limit is L - 2 up to L = 127, and 125 from there on. -/
theorem lengthBoundary : Obligations.LengthBoundary := by
  intro s hrule hcfg hflush hstatus
  have hlimit := lengthLimit_of_margins hrule hcfg hflush hstatus
  refine ⟨fun hlow hhigh => ⟨decide_eq_true ?_, decide_eq_false ?_⟩,
    fun hhigh => ⟨decide_eq_true ?_, decide_eq_false ?_⟩⟩
  all_goals
    rw [hlimit]
    omega

/-- Every word of a width, in order. -/
def allWords (w : Nat) : List (BitVec w) := (List.range (2 ^ w)).map (BitVec.ofNat w)

theorem mem_allWords {w : Nat} (v : BitVec w) : v ∈ allWords w :=
  List.mem_map.mpr ⟨v.toNat, List.mem_range.mpr v.isLt, by simp⟩

/-- Every argument of LENGTH_LIMIT (R256): they are finitely many. -/
def allLengthArgs : List LengthArgs :=
  (allWords 2).flatMap fun c => (allWords 8).flatMap fun l => [false, true].flatMap fun a => [false, true].map fun b =>
    ⟨c, l, a, b⟩

theorem mem_allLengthArgs (x : LengthArgs) : x ∈ allLengthArgs := by
  have hbool : ∀ b : Bool, b ∈ [false, true] := by decide
  exact List.mem_flatMap.mpr ⟨x.lengthConfig, mem_allWords _, List.mem_flatMap.mpr ⟨x.packetLength, mem_allWords _,
    List.mem_flatMap.mpr ⟨x.crcAutoflush, hbool _, List.mem_map.mpr ⟨x.appendStatus, hbool _, rfl⟩⟩⟩⟩

/-- The rule that lists a function's value at every argument. -/
def ruleOf (g : LengthArgs → Int) : LengthRule :=
  { listed := allLengthArgs.map fun x => (x, g x), capFixed := 0, capVariable := 0, statusMargin := 0 }

/-- Such a rule's limit is the function: the argument is found in the list, and what is listed there is its value. -/
theorem lengthRuleLimit_ruleOf (g : LengthArgs → Int) (x : LengthArgs) : lengthRuleLimit (ruleOf g) x = g x := by
  unfold lengthRuleLimit
  split
  · rename_i e he
    have hkey : e.1 = x := by simpa using List.find?_some he
    obtain ⟨y, -, rfl⟩ := List.mem_map.mp (List.mem_of_find?_eq_some he)
    rw [← hkey]
  · rename_i hnone
    have hlisted : (x, g x) ∈ (ruleOf g).listed := List.mem_map.mpr ⟨x, mem_allLengthArgs x, rfl⟩
    exact absurd (List.find?_eq_none.mp hnone _ hlisted) (by simp)

/-- Settles O54: the rule that lists the function. -/
theorem lengthLimitIsAnyFunction : Obligations.LengthLimitIsAnyFunction := by
  intro f
  refine ⟨ruleOf fun x => f x.lengthConfig x.packetLength x.crcAutoflush x.appendStatus, fun s hs => ?_⟩
  rw [lengthLimit, hs, lengthRuleLimit_ruleOf]
  rfl

/-! ### Check values -/

/-- Settles O55, by running the engine over the nine bytes. -/
theorem crcCheckValues : Obligations.CrcCheckValues := by
  refine ⟨?mode1, ?mode2, ?mode3, ?crc32, ?bytes16, ?bytes32⟩
  all_goals decide +kernel

/-- Settles O56, by evaluation of the reset state. -/
theorem resetValues : Obligations.ResetValues := by
  unfold Obligations.ResetValues
  decide

end Sys2Proof.Proofs
end
